-- ==== Sys2Proof/Word.lean ====
section
/-! DEFINITION. The words and numbers the MP16 handles: bytes of the links and their serial form, 32-bit data words, slot and block numbers. -/

namespace Sys2Proof

/-- A byte of the Host Link or of a lane (R142, R172). -/
abbrev Byte := BitVec 8

/-- A 32-bit word of a module, a message or a block (00_scope.md, Conventions). -/
abbrev Word := BitVec 32

/-- One byte as it stands on a serial line, in the order of its bits: the start bit, the eight data bits as they come, no
parity bit, and the stop bit (R142, R172). A level is a Bool, true for high. -/
structure LineByte where
  start : Bool
  data : Vector Bool 8
  stop : Bool
  deriving DecidableEq, Repr

/-- The number of one of the sixteen slots, 0 to 15 (R59). -/
abbrev SlotNo := Fin 16

/-- The number of one of the 96 blocks of the Buffer Pool (R106). -/
abbrev BlockNo := Fin 96

end Sys2Proof
end

