-- ==== Sys2Proof/Syntax.lean ====
section
/-! DEFINITION. The commands of the part: one constructor for each row of spec/opcode_table.json. -/

namespace Sys2Proof

/-- A command is one whole step of the part (95_what_each_step_holds.md). The commands that take a request
carry no operand: the step takes the request at the head of the Host Request Queue, which holds the tag and the
field bytes (R149, R150, R168). A slot is given by its number, which `Instr.WellFormed` bounds. -/
inductive Instr where
  /-- Power is applied or RESET_N goes low (R165). -/
  | powerOnReset
  /-- The receiver takes one byte from RXD, whatever its stop bit (R142, R144). -/
  | hostByteReceived (line : LineByte)
  /-- The gap timer of the Host Link receiver expires (R145). -/
  | gapTimerExpiry
  /-- The transmitter completes the last byte of its frame (R152). -/
  | hostFrameSent
  /-- A head with an unknown code or a wrong body length is taken (R150). -/
  | unknownRequest
  /-- A Query Part at the head is taken (R156). -/
  | queryPart
  /-- A Set Parameters at the head is taken (R158). -/
  | setParameters
  /-- A Read Parameters at the head is taken (R160). -/
  | readParameters
  /-- A Restart at the head is taken (R162). -/
  | restart
  /-- A Define Class at the head is taken (R4). -/
  | defineClass
  /-- A Drop Class at the head is taken (R8). -/
  | dropClass
  /-- A Read Class at the head is taken (R10). -/
  | readClass
  /-- A Read Placement at the head is taken (R57). -/
  | readPlacement
  /-- A Read Draft at the head is taken (R33). -/
  | readDraft
  /-- A Commit Placement at the head is taken (R50). -/
  | commitPlacement
  /-- A Read Slot at the head is taken (R80). -/
  | readSlot
  /-- A Reset Slot at the head is taken (R70, R71). -/
  | resetSlot
  /-- A Release Slot at the head is taken (R72). -/
  | releaseSlot
  /-- An Access Read at the head is taken (R108, R109). -/
  | accessRead
  /-- An Access Write at the head is taken (R108, R109). -/
  | accessWrite
  /-- A Cancel Access at the head is taken (R121). -/
  | cancelAccess
  /-- An Acknowledge Notices at the head is taken (R134). -/
  | acknowledgeNotices
  /-- A Resend Notices at the head is taken (R136). -/
  | resendNotices
  /-- A Set Event Enable at the head is taken (R139). -/
  | setEventEnable
  /-- A Read Counters at the head is taken (R161). -/
  | readCounters
  /-- The presence line of a slot rises (R61). -/
  | presenceRise (slot : Nat)
  /-- The presence line of a slot falls (R68). -/
  | presenceLoss (slot : Nat)
  /-- The settle period of a slot expires (R62). -/
  | settlePeriodExpiry (slot : Nat)
  /-- The lane receiver of a slot takes one byte (R172). -/
  | laneByteReceived (slot : Nat) (line : LineByte)
  /-- The lane of a slot has been silent for more than 1 ms (R172). -/
  | laneSilenceTimeout (slot : Nat)
  /-- The Reply Time timer of a slot's exchange expires (R90). -/
  | replyTimeExpiry (slot : Nat)
  /-- The lane transmitter of a slot finishes its frame (R86). -/
  | laneFrameSent (slot : Nat)
  /-- The power-on reset ends, with the levels of RATE1, RATE0 and of PRES0 to PRES15 (bit k for slot k) (R165). -/
  | resetEnd (rate1 rate0 : Bool) (presence : BitVec 16)
  deriving DecidableEq, Repr

end Sys2Proof
end

