-- ==== Sys2Proof/Decode.lean ====
section
/-! DEFINITION. The decoder the host asks for. The table of this block gives no row any bits. -/

namespace Sys2Proof

/-- No row of spec/opcode_table.json carries bits (each has an empty "fields" and no "fixed"), so no word spells a
command. Requests and lane frames have byte layouts of their own (R168, R172), read by
`Machine.decodeRequest` and `Machine.parseLaneFrame`. -/
def decodeTableWord (nbits w : Nat) : Option Instr :=
  match nbits, w with
  | _, _ => none

end Sys2Proof
end

