-- ==== Sys2Proof/Config.lean ====
section
/-! DEFINITION. The fixed numbers of the part: identity, capacities, ranges of parameters, protocol constants. The spec leaves no value open to an implementation, so nothing here is opaque. -/

namespace Sys2Proof.Config

/-- Part code and revision (R156). -/
def partCode : Nat := 0x0516
def revision : Nat := 1

/-- Capacities (R156 and the rules of the owning blocks). -/
def slotCount : Nat := 16
def catalogueCapacity : Nat := 32
def transactionCapacity : Nat := 32
def blockCount : Nat := 96
def attentionCapacity : Nat := 64
def placementCapacity : Nat := 192
/-- The Host Request Queue holds at most 16 requests (R149). -/
def requestCapacity : Nat := 16
/-- The head waits while 48 replies are owed (R149). -/
def owedLimit : Nat := 48
/-- A Lane Queue holds at most 4 entries (R105). -/
def laneCapacity : Nat := 4
/-- A module event is taken only into a queue of 55 notices or fewer (R129). -/
def eventRoom : Nat := 55
/-- A module event is taken only while fewer than 56 EVENT notices are queued (R129). -/
def eventCapacity : Nat := 56
/-- replies-since-notice stops at 4 (R153). -/
def noticeTurn : Nat := 4

/-- Window space holds 65,536 words and event space 256 numbers (00_scope.md). -/
def windowSpace : Nat := 65536
def eventSpace : Nat := 256
/-- A counter stops at this value (R103, R154). -/
def counterMax : Nat := 4294967295
/-- The largest value of a 16-bit number (R40, R41, R127, R130). -/
def max16 : Nat := 65535
/-- The highest start index of Read Placement and Read Draft, and the entries of a page (R33, R57). -/
def maxStartIndex : Nat := 191
def pageSize : Nat := 8

/-- The first byte of a host frame (R143) and of a lane frame (R172). -/
def hostSync : Byte := 0xA5
def laneStart : Byte := 0xC3
/-- The notice code (R143). -/
def noticeCode : Byte := 0x60
/-- The largest lane payload in words (R83). -/
def maxLaneWords : Nat := 32
/-- The length in milliseconds of silence that ends a lane frame (R172). -/
def laneSilence : Nat := 1

end Sys2Proof.Config
end

