-- ==== Sys2Proof/Machine/State.lean ====
section
/-! DEFINITION. The state of the MP16 as plain data, grouped by the block that owns each piece (00_scope.md, Block overview), and its value after a power-on reset. -/

namespace Sys2Proof.Machine

/-! ## Parameters (chapter 9) -/

/-- How a joining module that finds no hole is treated (R47). -/
inductive JoinPolicy where
  | fillOnly
  | autoCommit
  deriving DecidableEq, Repr

/-- The eight parameters (R157). Times are in milliseconds. -/
structure Params where
  joinPolicy : JoinPolicy
  runBase : Nat
  settleTime : Nat
  replyTime : Nat
  retryLimit : Nat
  faultThreshold : Nat
  noticeWindow : Nat
  frameGapTime : Nat
  deriving DecidableEq, Repr

/-- The power-on values of the table of R157. -/
def Params.powerOn : Params where
  joinPolicy := .fillOnly
  runBase := 256
  settleTime := 100
  replyTime := 20
  retryLimit := 2
  faultThreshold := 3
  noticeWindow := 8
  frameGapTime := 10

/-! ## Placement Engine (chapters 1 to 3) -/

/-- One entry of the Class Catalogue (R1). `anchor` is the anchor base, absent for an unanchored class. -/
structure ClassEntry where
  code : Nat
  rank : Nat
  size : Nat
  exponent : Nat
  span : Nat
  reserve : Nat
  anchor : Option Nat
  deriving DecidableEq, Repr

/-- A range of global event numbers, [base, base + span) (R21). -/
structure EventRange where
  base : Nat
  span : Nat
  deriving DecidableEq, Repr

/-- The kind of a placement entry; only a WINDOW names a slot (R37). -/
inductive EntryKind where
  | window (slot : SlotNo)
  | heldAnchor
  | reserve
  | vacancy
  | fence
  deriving DecidableEq, Repr

/-- One entry of the Active Placement or of a draft (R37, R21). -/
structure Entry where
  kind : EntryKind
  base : Nat
  size : Nat
  classCode : Nat
  anchored : Bool
  events : Option EventRange
  deriving DecidableEq, Repr

/-- What the Placement Engine holds besides Join Policy and Run Base (R1, R37, R40, R41). -/
structure PlacementEngine where
  catalogue : List ClassEntry
  placement : List Entry
  generation : Nat
  stamp : Nat
  deriving DecidableEq, Repr

/-! ## Slot Controllers (chapters 4 and 5) -/

inductive PendingReason where
  | awaitingCommit
  | noSpace
  deriving DecidableEq, Repr

inductive FailReason where
  | noIdent
  | laneFault
  | spanMismatch
  deriving DecidableEq, Repr

/-- The slot state with what belongs to it: the reason of PENDING and FAILED, and the halt sent flag, which has a
meaning in DRAINING only and is cleared by every change of state (R59). -/
inductive SlotState where
  | empty
  | settling
  | probing
  | unknownClass
  | pending (reason : PendingReason)
  | placed
  | draining (haltSent : Bool)
  | released
  | failed (reason : FailReason)
  deriving DecidableEq, Repr

/-- The identity a module gave in the last IDENT judged (R59, R60). -/
structure Identity where
  classCode : Nat
  eventCount : Nat
  revision : Nat
  serial : Option Word
  deriving DecidableEq, Repr

/-- FIRST when the slot is PROBING, RESYNC otherwise (R85). -/
inductive ProbePurpose where
  | first
  | resync
  deriving DecidableEq, Repr

/-- The kind of an exchange with what its frames carry: for READ and WRITE the host tag of the transaction, the
offset and the number of words (R85, R113). -/
inductive ExchangeKind where
  | probe (purpose : ProbePurpose)
  | read (tag : Byte) (offset count : Nat)
  | write (tag : Byte) (offset count : Nat)
  | halt
  deriving DecidableEq, Repr

/-- The exchange record (R85). `frameWaiting`: a frame of the exchange waits for the lane transmitter (R86).
`timer`: the Reply Time timer, with its length while it runs. -/
structure Exchange where
  kind : ExchangeKind
  phase : Bool
  sends : Nat
  frameWaiting : Bool
  timer : Option Nat
  cancelled : Bool
  releaseEnded : Bool
  deriving DecidableEq, Repr

/-- A decided event answer: EVACK when `accepted`, EVWAIT otherwise, with the event's phase (R85, R97 to R100). -/
structure EventAnswer where
  accepted : Bool
  phase : Bool
  deriving DecidableEq, Repr

/-- The delimiting stage of R172: between frames, or inside one with the bytes received after its start byte. The
silence timer of 1 ms runs exactly inside a frame. -/
inductive LaneReceiver where
  | between
  | inside (received : List Byte)
  deriving DecidableEq, Repr

/-- What the frame being sent on a lane belongs to. `abandoned`: its exchange or event answer has gone; the frame is
finished all the same (R86, R93). -/
inductive LaneSource where
  | exchange
  | eventAnswer
  | abandoned
  deriving DecidableEq, Repr

/-- The frame a lane transmitter is sending, with the Reply Time in force when its sending began (R86). -/
structure LaneSending where
  source : LaneSource
  replyTime : Nat
  bytes : List Byte
  deriving DecidableEq, Repr

/-- The fifteen lane counters in the order of the table of R103. -/
structure LaneCounters where
  sentFrames : Nat := 0
  retries : Nat := 0
  receivedFrames : Nat := 0
  badFrames : Nat := 0
  ignoredFrames : Nat := 0
  staleAnswers : Nat := 0
  protocolErrors : Nat := 0
  expiredExchanges : Nat := 0
  resyncs : Nat := 0
  acceptedEvents : Nat := 0
  duplicateEvents : Nat := 0
  badEvents : Nat := 0
  disabledEvents : Nat := 0
  waitedEvents : Nat := 0
  discardedEvents : Nat := 0
  deriving DecidableEq, Repr

/-- The lane engine with its transmitter (R85, R86). A phase is a Bool, false for 0. -/
structure Lane where
  outboundPhase : Bool
  exchange : Option Exchange
  resyncRequired : Bool
  lastEventPhase : Bool
  eventAnswer : Option EventAnswer
  sending : Option LaneSending
  receiver : LaneReceiver
  counters : LaneCounters
  deriving DecidableEq, Repr

/-- The lane engine after a power-on reset (R85). The spec does not give the lane transmitter after the reset: the model makes
it idle and drops a frame that was being sent (log 21). -/
def Lane.powerOn : Lane where
  outboundPhase := false
  exchange := none
  resyncRequired := false
  lastEventPhase := false
  eventAnswer := none
  sending := none
  receiver := .between
  counters := {}

/-- A Slot Controller: the slot record of R59, the presence line as taken, the settle period with its length while
it runs (R62), and the lane engine. -/
structure Slot where
  presence : Bool
  state : SlotState
  settle : Option Nat
  identity : Option Identity
  joinCount : Nat
  failures : Nat
  lane : Lane
  deriving DecidableEq, Repr

/-- A slot whose presence line is low, after a power-on reset (R81). -/
def Slot.powerOn : Slot where
  presence := false
  state := .empty
  settle := none
  identity := none
  joinCount := 0
  failures := 0
  lane := Lane.powerOn

/-! ## Transaction Unit and Buffer Pool (chapter 6) -/

inductive AccessKind where
  | read
  | write
  deriving DecidableEq, Repr

inductive TransactionState where
  | waiting
  | inExchange
  | cancelling
  deriving DecidableEq, Repr

/-- An entry in use of the Transaction Table (R104). -/
structure Transaction where
  tag : Byte
  kind : AccessKind
  slot : SlotNo
  offset : Nat
  count : Nat
  blocks : List BlockNo
  state : TransactionState
  generation : Nat
  deriving DecidableEq, Repr

/-- The owner record of a block (R106). -/
inductive BlockOwner where
  | free
  | transaction (tag : Byte)
  | reply
  deriving DecidableEq, Repr

/-- A block of 8 words with its owner (R106). -/
structure Block where
  owner : BlockOwner
  words : Vector Word 8
  deriving DecidableEq, Repr

/-- The 96 blocks (R106). -/
abbrev Pool := Vector Block 96

/-- Every block free (R106); the words are a DESIGN CHOICE (log 7). -/
def Pool.powerOn : Pool := Vector.replicate 96 ⟨.free, Vector.replicate 8 0#32⟩

/-! ## Attention Unit (chapter 7) -/

inductive LeftCause where
  | presenceLost
  | identityChanged
  deriving DecidableEq, Repr

inductive CommitMark where
  | requested
  | automatic
  deriving DecidableEq, Repr

inductive ReleaseOutcome where
  | confirmed
  | unconfirmed
  deriving DecidableEq, Repr

inductive JoinOutcome where
  | placed
  | pending
  deriving DecidableEq, Repr

/-- The eight kinds of notice with their fields (R126). -/
inductive NoticeKind where
  | moduleJoined (slot : SlotNo) (classCode joinCount : Nat) (outcome : JoinOutcome)
  | moduleLeft (slot : SlotNo) (classCode : Nat) (cause : LeftCause)
  | slotFailed (slot : SlotNo) (reason : FailReason)
  | placementPending (slot : SlotNo) (reason : PendingReason)
  | placementCommitted (generation fitted unfit : Nat) (mark : CommitMark)
  | releaseDone (slot : SlotNo) (outcome : ReleaseOutcome)
  | summary (lost : Nat)
  | event (number : Nat) (slot : SlotNo) (index generation : Nat) (payload : List Word)
  deriving DecidableEq, Repr

/-- The delivery state of a notice: `fresh` is the manual's NEW (R125). -/
inductive Delivery where
  | fresh
  | sent
  deriving DecidableEq, Repr

/-- A queued notice (R125). -/
structure Notice where
  seq : Nat
  kind : NoticeKind
  delivery : Delivery
  deriving DecidableEq, Repr

/-- The Attention Unit (R125). `enabled` is the Event Enable map (R138). -/
structure AttentionUnit where
  queue : List Notice
  nextSeq : Nat
  summaryDue : Bool
  lostCount : Nat
  enabled : Vector Bool 256
  deriving DecidableEq, Repr

/-- The Attention Unit after a power-on reset (R140). -/
def AttentionUnit.powerOn : AttentionUnit where
  queue := []
  nextSeq := 1
  summaryDue := false
  lostCount := 0
  enabled := Vector.replicate 256 true

/-! ## Host Link Interface (chapters 8 and 10) -/

/-- The status codes (10_message_formats_and_status_codes.md, 10.5). -/
inductive Status where
  | ok | queueFull | tagInUse | unknownRequest | badFormat | badParam | catalogueFull | rankTaken | noClass
  | classInUse | anchorConflict | draftChanged | staleView | unmapped | vacant | reserved | spanError | fenceWrite
  | slotState | slotReleasing | noTxn | laneBusy | noBuffer | moduleRefused | laneTimeout | laneFault | moduleGone
  | cancelled | noSuchTag | aborted | slotReset | badSeq | protocolError
  deriving DecidableEq, Repr

inductive RestartScope where
  | keepCatalogue
  | full
  deriving DecidableEq, Repr

inductive DefineOutcome where
  | created
  | redefined
  deriving DecidableEq, Repr

/-- The outcome of a CANCELLED reply. PERFORMED says whether the module refused, and its reason byte if it did
(R119, R123). -/
inductive CancelOutcome where
  | notSent
  | performed (refused : Option Byte)
  | unknown
  deriving DecidableEq, Repr

/-- The five link counters in the order of the table of R154. -/
structure LinkCounters where
  goodFrames : Nat := 0
  badCheck : Nat := 0
  badLength : Nat := 0
  gapAbandon : Nat := 0
  refusalsDropped : Nat := 0
  deriving DecidableEq, Repr

/-- The fields Read Slot reports (R80). -/
structure SlotReport where
  slot : SlotNo
  state : SlotState
  identity : Option Identity
  joinCount : Nat
  failures : Nat
  transactionsHeld : Nat
  generation : Nat
  window : Option Entry
  deriving DecidableEq, Repr

/-- The fields Query Part reports beside its constants (R156). -/
structure PartReport where
  generation : Nat
  stamp : Nat
  joinPolicy : JoinPolicy
  freeBlocks : Nat
  transactionsInUse : Nat
  deriving DecidableEq, Repr

/-- The fields of a reply after its status, one constructor for each layout of R169. `data` is an OK to an Access Read
of a module: its words stand in the blocks the reply holds (R115, R120). -/
inductive ReplyFields where
  | none
  | part (report : PartReport)
  | stamp (stamp : Nat)
  | params (values : Params)
  | restart (scope : RestartScope) (generation stamp aborted nextSeq : Nat)
  | defined (outcome : DefineOutcome) (rejudged stamp : Nat)
  | classEntry (entry : ClassEntry)
  | placementPage (generation stamp count start : Nat) (page : List Entry)
  | draftPage (stamp fitted unfit count start : Nat) (page : List Entry)
  | committed (generation stamp fitted unfit : Nat)
  | slotRecord (report : SlotReport)
  | slotState (state : SlotState)
  | data (generation count : Nat) (blocks : List BlockNo)
  | fenceWord (generation : Nat) (word : Word)
  | generation (generation : Nat)
  | moduleRefused (generation : Nat) (reason : Byte)
  | cancelled (generation : Nat) (outcome : CancelOutcome)
  | foundState (state : TransactionState)
  | acknowledged (removed queued : Nat)
  | badSeq (oldest queued : Nat)
  | madeNew (count : Nat)
  | linkCounters (counters : LinkCounters)
  | laneCounters (lane : SlotNo) (counters : LaneCounters)
  deriving DecidableEq, Repr

/-- An accepted request as it waits in the Host Request Queue: the body's code, tag and the bytes after them (R143,
R149, R167). -/
structure HostRequest where
  code : Byte
  tag : Byte
  fields : List Byte
  deriving DecidableEq, Repr

/-- A reply (R151, R167). `code` is the reply code. -/
structure Reply where
  code : Byte
  tag : Byte
  status : Status
  fields : ReplyFields
  deriving DecidableEq, Repr

/-- The content of the refusal slot (R148). -/
structure RefusalFrame where
  code : Byte
  tag : Byte
  status : Status
  deriving DecidableEq, Repr

/-- The stage of the Host Link receiver with the length its gap timer keeps through the frame (R144, R145, R159). -/
inductive Receiver where
  | hunting
  | awaitingLength (gap : Nat)
  | body (gap len : Nat) (received : List Byte)
  | check (gap len : Nat) (body received : List Byte)
  deriving DecidableEq, Repr

/-- Where the frame being sent came from (R152). `noticeRemoved`: its notice has left the queue since (R132). -/
inductive FrameSource where
  | refusal
  | reply
  | notice (seq : Nat)
  | noticeRemoved
  deriving DecidableEq, Repr

/-- The frame the transmitter is sending (R152). -/
structure HostSending where
  source : FrameSource
  bytes : List Byte
  deriving DecidableEq, Repr

/-- The Host Link Interface (R142 to R155). -/
structure HostLink where
  rate1 : Bool
  rate0 : Bool
  receiver : Receiver
  requests : List HostRequest
  replies : List Reply
  refusal : Option RefusalFrame
  sending : Option HostSending
  sinceNotice : Nat
  counters : LinkCounters
  deriving DecidableEq, Repr

/-- The Host Link Interface after a power-on reset (R155). The strap levels are not yet sampled (log 5, 6). -/
def HostLink.powerOn : HostLink where
  rate1 := false
  rate0 := false
  receiver := .hunting
  requests := []
  replies := []
  refusal := none
  sending := none
  sinceNotice := 0
  counters := {}

/-! ## The whole part -/

/-- The state of the part. `held`: the power-on reset has not ended (R165). `pending` is the model's own field, the
queue of commands that wait, first in first out. -/
structure State where
  held : Bool
  params : Params
  hli : HostLink
  pe : PlacementEngine
  slots : Vector Slot 16
  transactions : List Transaction
  pool : Pool
  au : AttentionUnit
  pending : List Instr
  deriving DecidableEq, Repr

/-- The reasons the part can stop with a fault. There is none: the spec turns every error into a status, a counter, a
notice or a slot state (INVENTORY.md, Faults), and no meaning of this model faults. -/
inductive Fault where
  deriving DecidableEq, Repr

/-- The reasons a command can be refused. -/
inductive Refusal where
  /-- Raised by an arm of `exec` whose command has no meaning yet; no arm of this model raises it. Safe. -/
  | notModelled (mnemonic : String)
  deriving DecidableEq, Repr

/-- The part while the power-on reset is applied: every block at its power-on value (R165), every slot EMPTY until
the presence lines are taken at the end of the reset (log 6). The queue of commands is not the part's and is kept. -/
def State.powerOn (pending : List Instr) : State where
  held := true
  params := Params.powerOn
  hli := HostLink.powerOn
  pe := { catalogue := [], placement := [], generation := 0, stamp := 0 }
  slots := Vector.replicate 16 Slot.powerOn
  transactions := []
  pool := Pool.powerOn
  au := AttentionUnit.powerOn
  pending := pending

/-- The part right after a power-on reset has ended, with both straps and every presence line low (R165; the pin
levels are log 5). -/
def State.reset : State := { State.powerOn [] with held := false }

end Sys2Proof.Machine
end

