-- ==== Sys2Proof/Machine/Flags.lean ====
section
/-! DEFINITION. Counters that stop at their maximum, numbers that pass their maximum, and the Event Enable map. -/

namespace Sys2Proof.Machine

/-- A counter incremented by 1; it stops at its maximum rather than passing it (R103, R154). -/
def bump (n : Nat) : Nat := if n < Config.counterMax then n + 1 else Config.counterMax

/-- The generation after a commit or Restart: +1, passing from 65535 to 1 (R40). -/
def nextGeneration (g : Nat) : Nat := if g < Config.max16 then g + 1 else 1

/-- The draft stamp after an event of the table of R41: +1, passing from 65535 to 0. -/
def nextStamp (t : Nat) : Nat := if t < Config.max16 then t + 1 else 0

/-- The next notice sequence number: +1, passing from 65535 to 1 (R127). -/
def nextSequence (q : Nat) : Nat := if q < Config.max16 then q + 1 else 1

/-- The join count after one more judged join, passing from 65535 to 0 (R59). -/
def nextJoinCount (n : Nat) : Nat := if n < Config.max16 then n + 1 else 0

/-- The lost-notice count after one more loss; it stops at 65535 (R130). -/
def bumpLost (n : Nat) : Nat := if n < Config.max16 then n + 1 else Config.max16

/-- replies-since-notice after one more refusal or reply frame; it stops at 4 (R152, R153). -/
def bumpSinceNotice (n : Nat) : Nat := if n < Config.noticeTurn then n + 1 else Config.noticeTurn

/-- The flag of a global event number; a number outside event space has none and reads disabled (R138). -/
def flagOf (map : Vector Bool 256) (number : Nat) : Bool := map.toList.getD number false

/-- The flags of the numbers first to first + count − 1 take the setting, all at once (R139). -/
def setFlags (map : Vector Bool 256) (first count : Nat) (setting : Bool) : Vector Bool 256 :=
  Vector.ofFn fun n => if first ≤ n.val ∧ n.val < first + count then setting else map[n]

end Sys2Proof.Machine
end

