-- ==== Sys2Proof/Machine/Formats.lean ====
section
/-! DEFINITION. The serial form of a byte, byte layouts of the messages the part sends and of lane frames (chapter 10), and the CRC-16 of R83 and R143. -/

namespace Sys2Proof.Machine

/-! ## Serial form (R142, R172) -/

/-- The eight data bits taken as a byte, least significant first, whether or not the stop bit is high (R142). -/
def byteOnLine (line : LineByte) : Byte := BitVec.ofNat 8 (line.data.toList.foldr (fun bit n => bit.toNat + 2 * n) 0)

/-- The serial form of a byte the part sends: start bit low, data bits least significant first, stop bit high (R142). -/
def lineOfByte (b : Byte) : LineByte where
  start := false
  data := Vector.ofFn fun i : Fin 8 => b.getLsbD i.val
  stop := true

/-- The levels of one byte on the line, in the order of time (R142). -/
def lineLevels (line : LineByte) : List Bool := line.start :: line.data.toList ++ [line.stop]

/-- The levels of a frame, its bytes one after another without pause (R142, R172). -/
def frameLevels (bytes : List Byte) : List Bool := bytes.flatMap fun b => lineLevels (lineOfByte b)

/-- What a frame being sent puts on TXD (R142). -/
def HostSending.levels (f : HostSending) : List Bool := frameLevels f.bytes

/-- What a frame being sent puts on the lane's transmit line (R172). -/
def LaneSending.levels (f : LaneSending) : List Bool := frameLevels f.bytes

/-! ## Numbers and the check -/

/-- A number in one byte. -/
def byteOf (n : Nat) : Byte := BitVec.ofNat 8 n

/-- A 16-bit number, high byte first (R167). -/
def be16 (n : Nat) : List Byte := [byteOf (n / 256), byteOf n]

/-- A 32-bit word, high byte first (R167). -/
def be32 (w : Word) : List Byte :=
  [w.extractLsb' 24 8, w.extractLsb' 16 8, w.extractLsb' 8 8, w.extractLsb' 0 8]

/-- A counter as a 32-bit number (R167). -/
def counterBytes (n : Nat) : List Byte := be32 (BitVec.ofNat 32 n)

/-- The 16-bit number of two bytes, high byte first (R167). -/
def num16 (hi lo : Byte) : Nat := hi.toNat * 256 + lo.toNat

/-- The word of four bytes, high byte first (R167). -/
def word32 (a b c d : Byte) : Word := a ++ b ++ c ++ d

/-- The words of a byte sequence; none where the bytes do not make whole words (R168). -/
def wordsOf : List Byte → Option (List Word)
  | [] => some []
  | a :: b :: c :: d :: rest => (wordsOf rest).map (word32 a b c d :: ·)
  | _ :: _ => none

/-- `n` shifts of the CRC register with polynomial x^16+x^12+x^5+1 (R83, R143). -/
def crcShift : Nat → BitVec 16 → BitVec 16
  | 0, c => c
  | n + 1, c => crcShift n (if c.msb then (c <<< 1) ^^^ 0x1021#16 else c <<< 1)

/-- One byte into the CRC register, most significant bit first (no reflection, R143). -/
def crcByte (c : BitVec 16) (b : Byte) : BitVec 16 := crcShift 8 (c ^^^ (b.setWidth 16 <<< 8))

/-- The CRC-16 of R83 and R143: initial value 0xFFFF, no final inversion. -/
def crc16 (bytes : List Byte) : BitVec 16 := bytes.foldl crcByte 0xFFFF#16

/-- The two check bytes, high byte first (R143, R172). -/
def checkBytes (bytes : List Byte) : List Byte :=
  [(crc16 bytes).extractLsb' 8 8, (crc16 bytes).extractLsb' 0 8]

/-- The host frame of a body: sync, LEN, body, check over LEN and body (R143). -/
def hostFrame (body : List Byte) : List Byte :=
  let covered := byteOf body.length :: body
  Config.hostSync :: covered ++ checkBytes covered

/-! ## Enumerated fields (the table of R167) -/

def boolByte (b : Bool) : Byte := if b then 1 else 0

def SlotState.stateByte : SlotState → Byte
  | .empty => 0
  | .settling => 1
  | .probing => 2
  | .unknownClass => 3
  | .pending _ => 4
  | .placed => 5
  | .draining _ => 6
  | .released => 7
  | .failed _ => 8

def PendingReason.toByte : PendingReason → Byte
  | .awaitingCommit => 1
  | .noSpace => 2

def FailReason.toByte : FailReason → Byte
  | .noIdent => 3
  | .laneFault => 4
  | .spanMismatch => 5

def SlotState.reasonByte : SlotState → Byte
  | .pending r => r.toByte
  | .failed r => r.toByte
  | _ => 0

/-- The halt sent flag, clear in every state but DRAINING (R80). -/
def SlotState.haltSent : SlotState → Bool
  | .draining h => h
  | _ => false

def EntryKind.toByte : EntryKind → Byte
  | .window _ => 1
  | .heldAnchor => 2
  | .reserve => 3
  | .vacancy => 4
  | .fence => 5

/-- The slot a WINDOW names. -/
def EntryKind.slot? : EntryKind → Option SlotNo
  | .window k => some k
  | _ => none

def JoinPolicy.toByte : JoinPolicy → Byte
  | .fillOnly => 0
  | .autoCommit => 1

def RestartScope.toByte : RestartScope → Byte
  | .keepCatalogue => 0
  | .full => 1

def DefineOutcome.toByte : DefineOutcome → Byte
  | .created => 1
  | .redefined => 2

def TransactionState.toByte : TransactionState → Byte
  | .waiting => 1
  | .inExchange => 2
  | .cancelling => 3

/-- The outcome, refused and reason bytes of a CANCELLED reply (R169). -/
def CancelOutcome.toBytes : CancelOutcome → List Byte
  | .notSent => [1, 0, 0]
  | .performed none => [2, 0, 0]
  | .performed (some reason) => [2, 1, reason]
  | .unknown => [3, 0, 0]

def JoinOutcome.toByte : JoinOutcome → Byte
  | .placed => 1
  | .pending => 2

def LeftCause.toByte : LeftCause → Byte
  | .presenceLost => 1
  | .identityChanged => 2

def CommitMark.toByte : CommitMark → Byte
  | .requested => 1
  | .automatic => 2

def ReleaseOutcome.toByte : ReleaseOutcome → Byte
  | .confirmed => 1
  | .unconfirmed => 2

/-- The values of section 10.5. -/
def Status.toByte : Status → Byte
  | .ok => 0
  | .queueFull => 1
  | .tagInUse => 2
  | .unknownRequest => 3
  | .badFormat => 4
  | .badParam => 5
  | .catalogueFull => 6
  | .rankTaken => 7
  | .noClass => 8
  | .classInUse => 9
  | .anchorConflict => 10
  | .draftChanged => 11
  | .staleView => 12
  | .unmapped => 13
  | .vacant => 14
  | .reserved => 15
  | .spanError => 16
  | .fenceWrite => 17
  | .slotState => 18
  | .slotReleasing => 19
  | .noTxn => 20
  | .laneBusy => 21
  | .noBuffer => 22
  | .moduleRefused => 23
  | .laneTimeout => 24
  | .laneFault => 25
  | .moduleGone => 26
  | .cancelled => 27
  | .noSuchTag => 28
  | .aborted => 29
  | .slotReset => 30
  | .badSeq => 31
  | .protocolError => 32

/-! ## Reply bodies (R169) -/

/-- The data bytes a list of words makes. -/
def wordBytes (ws : List Word) : List Byte := ws.flatMap be32

/-- The first `count` words that the blocks of a list hold, in the order of the list (R106). -/
def Pool.read (pool : Pool) (blocks : List BlockNo) (count : Nat) : List Word :=
  (blocks.flatMap fun b => pool[b].words.toList).take count

def slotByte (k : SlotNo) : Byte := byteOf k.val

/-- The 11 bytes of a placement entry (R169). -/
def Entry.toBytes (e : Entry) : List Byte :=
  [e.kind.toByte,
    boolByte e.anchored + 2 * boolByte e.kind.slot?.isSome + 4 * boolByte e.events.isSome]
    ++ be16 e.base ++ be16 e.size ++ be16 e.classCode
    ++ [byteOf ((e.kind.slot?.map Fin.val).getD 0), byteOf ((e.events.map EventRange.base).getD 0),
      byteOf ((e.events.map EventRange.span).getD 0)]

/-- The ten bytes of the parameters (R168). -/
def Params.toBytes (p : Params) : List Byte :=
  [p.joinPolicy.toByte] ++ be16 p.runBase ++ be16 p.settleTime
    ++ [byteOf p.replyTime, byteOf p.retryLimit, byteOf p.faultThreshold, byteOf p.noticeWindow,
      byteOf p.frameGapTime]

/-- The eleven field bytes of Define Class (R168). -/
def ClassEntry.toBytes (c : ClassEntry) : List Byte :=
  be16 c.code ++ [byteOf c.rank] ++ be16 c.size
    ++ [byteOf c.exponent, byteOf c.span, byteOf c.reserve, boolByte c.anchor.isSome]
    ++ be16 (c.anchor.getD 0)

/-- The 25 bytes of the slot record (R169). -/
def SlotReport.toBytes (r : SlotReport) : List Byte :=
  let serial := r.identity.bind Identity.serial
  let range := r.window.bind Entry.events
  [slotByte r.slot, r.state.stateByte, r.state.reasonByte,
    boolByte r.state.haltSent + 2 * boolByte r.identity.isSome + 4 * boolByte serial.isSome
      + 8 * boolByte r.window.isSome + 16 * boolByte ((r.window.map Entry.anchored).getD false)
      + 32 * boolByte range.isSome]
    ++ be16 ((r.identity.map Identity.classCode).getD 0)
    ++ [byteOf ((r.identity.map Identity.eventCount).getD 0)]
    ++ be16 ((r.identity.map Identity.revision).getD 0)
    ++ be32 (serial.getD 0)
    ++ be16 r.joinCount
    ++ [byteOf r.failures, byteOf r.transactionsHeld]
    ++ be16 r.generation
    ++ be16 ((r.window.map Entry.base).getD 0)
    ++ be16 ((r.window.map Entry.size).getD 0)
    ++ [byteOf ((range.map EventRange.base).getD 0), byteOf ((range.map EventRange.span).getD 0)]

/-- The link counters in the order of R154. -/
def LinkCounters.toList (c : LinkCounters) : List Nat :=
  [c.goodFrames, c.badCheck, c.badLength, c.gapAbandon, c.refusalsDropped]

/-- The lane counters in the order of R103. -/
def LaneCounters.toList (c : LaneCounters) : List Nat :=
  [c.sentFrames, c.retries, c.receivedFrames, c.badFrames, c.ignoredFrames, c.staleAnswers, c.protocolErrors,
    c.expiredExchanges, c.resyncs, c.acceptedEvents, c.duplicateEvents, c.badEvents, c.disabledEvents,
    c.waitedEvents, c.discardedEvents]

/-- The fields of a reply after its status (R169); a read's words come from the blocks the reply holds (R120). -/
def ReplyFields.toBytes (pool : Pool) : ReplyFields → List Byte
  | .none => []
  | .part r =>
    be16 Config.partCode
      ++ [byteOf Config.revision, byteOf Config.slotCount, byteOf Config.catalogueCapacity,
        byteOf Config.transactionCapacity, byteOf Config.blockCount, byteOf Config.attentionCapacity,
        byteOf Config.placementCapacity]
      ++ be16 r.generation ++ be16 r.stamp
      ++ [r.joinPolicy.toByte, byteOf r.freeBlocks, byteOf r.transactionsInUse]
  | .stamp t => be16 t
  | .params p => p.toBytes
  | .restart scope g t aborted nextSeq => [scope.toByte] ++ be16 g ++ be16 t ++ [byteOf aborted] ++ be16 nextSeq
  | .defined outcome rejudged t => [outcome.toByte, byteOf rejudged] ++ be16 t
  | .classEntry c => c.toBytes
  | .placementPage g t count start page =>
    be16 g ++ be16 t ++ [byteOf count, byteOf start, byteOf page.length] ++ page.flatMap Entry.toBytes
  | .draftPage t fitted unfit count start page =>
    be16 t ++ [byteOf fitted, byteOf unfit, byteOf count, byteOf start, byteOf page.length]
      ++ page.flatMap Entry.toBytes
  | .committed g t fitted unfit => be16 g ++ be16 t ++ [byteOf fitted, byteOf unfit]
  | .slotRecord r => r.toBytes
  | .slotState st => [st.stateByte]
  | .data g count blocks => be16 g ++ [byteOf count] ++ wordBytes (pool.read blocks count)
  | .fenceWord g word => be16 g ++ [1] ++ be32 word
  | .generation g => be16 g
  | .moduleRefused g reason => be16 g ++ [reason]
  | .cancelled g outcome => be16 g ++ outcome.toBytes
  | .foundState st => [st.toByte]
  | .acknowledged removed queued => [byteOf removed, byteOf queued]
  | .badSeq oldest queued => be16 oldest ++ [byteOf queued]
  | .madeNew count => [byteOf count]
  | .linkCounters c => [0] ++ c.toList.flatMap counterBytes
  | .laneCounters k c => [1, slotByte k] ++ c.toList.flatMap counterBytes

/-- The body of a reply: reply code, echoed tag, status, fields (R167). -/
def Reply.toBody (pool : Pool) (r : Reply) : List Byte := [r.code, r.tag, r.status.toByte] ++ r.fields.toBytes pool

/-- The body of a refusal: reply code, tag and status (R148). -/
def RefusalFrame.toBody (r : RefusalFrame) : List Byte := [r.code, r.tag, r.status.toByte]

/-! ## Notice bodies (R170) -/

/-- The kind byte and the fields after it (R170). -/
def NoticeKind.toBytes : NoticeKind → List Byte
  | .moduleJoined k code joins outcome => [0x01, slotByte k] ++ be16 code ++ be16 joins ++ [outcome.toByte]
  | .moduleLeft k code cause => [0x02, slotByte k] ++ be16 code ++ [cause.toByte]
  | .slotFailed k reason => [0x03, slotByte k, reason.toByte]
  | .placementPending k reason => [0x04, slotByte k, reason.toByte]
  | .placementCommitted generation fitted unfit mark =>
    [0x05] ++ be16 generation ++ [byteOf fitted, byteOf unfit, mark.toByte]
  | .releaseDone k outcome => [0x06, slotByte k, outcome.toByte]
  | .summary lost => [0x07] ++ be16 lost
  | .event number k index generation payload =>
    [0x10, byteOf number, slotByte k, byteOf index] ++ be16 generation ++ [byteOf payload.length] ++ wordBytes payload

/-- The body of a notice: code 0x60, tag 0, sequence number, kind and fields (R167, R170). -/
def Notice.toBody (n : Notice) : List Byte := [Config.noticeCode, 0] ++ be16 n.seq ++ n.kind.toBytes

/-! ## Lane frames (R83, R172) -/

/-- The eleven kinds of lane frame (R83). -/
inductive LaneKind where
  | probe | read | write | halt | evack | evwait | ident | data | done | refuse | event
  deriving DecidableEq, Repr

/-- The kind codes of R172. -/
def LaneKind.code : LaneKind → Nat
  | .probe => 0x1
  | .read => 0x2
  | .write => 0x3
  | .halt => 0x4
  | .evack => 0x5
  | .evwait => 0x6
  | .ident => 0x9
  | .data => 0xA
  | .done => 0xB
  | .refuse => 0xC
  | .event => 0xD

/-- The kinds the module sends, by kind code (R83, R172); the kinds the part sends are no good received frame
(R84). -/
def LaneKind.ofModule (code : Nat) : Option LaneKind :=
  if code = 0x9 then some .ident
  else if code = 0xA then some .data
  else if code = 0xB then some .done
  else if code = 0xC then some .refuse
  else if code = 0xD then some .event
  else none

/-- A lane frame by its fields (R83). -/
structure LaneFrame where
  kind : LaneKind
  phase : Bool
  argument : Nat
  count : Nat
  payload : List Word
  deriving DecidableEq, Repr

/-- The header byte: kind code in bits 3 to 0, phase in bit 7 (R172). -/
def headerByte (kind : LaneKind) (phase : Bool) : Byte := byteOf (kind.code + if phase then 128 else 0)

/-- The bytes of a lane frame (R172). -/
def LaneFrame.toBytes (f : LaneFrame) : List Byte :=
  let covered := [headerByte f.kind f.phase] ++ be16 f.argument ++ [byteOf f.count] ++ wordBytes f.payload
  Config.laneStart :: covered ++ checkBytes covered

/-- The word counts R84 admits for the kinds the module sends. -/
def LaneKind.admitsCount (kind : LaneKind) (count : Nat) : Bool :=
  match kind with
  | .ident => count == 2 || count == 3
  | .data => 1 ≤ count && count ≤ Config.maxLaneWords
  | .done => count == 0
  | .refuse => count == 0
  | .event => count ≤ 4
  | .probe => false
  | .read => false
  | .write => false
  | .halt => false
  | .evack => false
  | .evwait => false

/-- A complete received frame, less its start byte, judged by R84: its fields where it is good, none where it is
bad (check, kind, header bits 6 to 4, word count). -/
def parseLaneFrame (received : List Byte) : Option LaneFrame :=
  let covered := received.take (received.length - 2)
  if received.drop (received.length - 2) = checkBytes covered then
    match covered with
    | header :: hi :: lo :: count :: payload =>
      match LaneKind.ofModule (header.toNat % 128), wordsOf payload with
      | some kind, some ws =>
        if kind.admitsCount count.toNat ∧ ws.length = count.toNat then
          some { kind := kind, phase := header.msb, argument := num16 hi lo, count := count.toNat, payload := ws }
        else none
      | _, _ => none
    | _ => none
  else none

/-- The identity an IDENT carries (R172): word 0 holds the class code and the declared event count, word 1 the
revision, word 2, when present, the serial number. -/
def LaneFrame.identity (f : LaneFrame) : Identity where
  classCode := (f.payload.getD 0 0#32).toNat / 65536
  eventCount := (f.payload.getD 0 0#32).toNat % 256
  revision := (f.payload.getD 1 0#32).toNat % 65536
  serial := f.payload[2]?

/-- The reason byte of a REFUSE, bits 7 to 0 of its argument (R83). -/
def LaneFrame.reason (f : LaneFrame) : Byte := byteOf f.argument

end Sys2Proof.Machine
end

