-- ==== Sys2Proof/Machine/Operands.lean ====
section
/-! DEFINITION. The operands of the request commands: request bodies read into fields (R168), the two checks made when the head is taken (R150), and the range checks of parameters and class entries (R158, R4). -/

namespace Sys2Proof.Machine

/-- The fields of Set Parameters as sent (R168). -/
structure ParamFields where
  joinPolicy : Nat
  runBase : Nat
  settleTime : Nat
  replyTime : Nat
  retryLimit : Nat
  faultThreshold : Nat
  noticeWindow : Nat
  frameGapTime : Nat
  deriving DecidableEq, Repr

/-- The fields of Define Class as sent (R168). -/
structure ClassFields where
  code : Nat
  rank : Nat
  size : Nat
  exponent : Nat
  span : Nat
  reserve : Nat
  anchorIndication : Nat
  anchorBase : Nat
  deriving DecidableEq, Repr

/-- A request read from a body. `unknown`: its code is no request code; `badFormat`: its length is not one R168 admits
for its code (R150). -/
inductive Request where
  | unknown
  | badFormat
  | queryPart
  | setParameters (fields : ParamFields)
  | readParameters
  | restart (scope : Nat)
  | defineClass (fields : ClassFields)
  | dropClass (code : Nat)
  | readClass (rank : Nat)
  | readPlacement (start : Nat)
  | readDraft (start : Nat)
  | commitPlacement (stamp : Nat)
  | readSlot (slot : Nat)
  | resetSlot (slot : Nat)
  | releaseSlot (slot : Nat)
  | accessRead (view address count : Nat)
  | accessWrite (view address count : Nat) (data : List Word)
  | cancelAccess (target : Byte)
  | acknowledgeNotices (seq : Nat)
  | resendNotices (seq : Nat)
  | setEventEnable (first count setting : Nat)
  | readCounters (selector lane clear : Nat)
  deriving DecidableEq, Repr

/-- A body of one field byte. -/
def oneByte (fields : List Byte) (f : Nat → Request) : Request :=
  match fields with
  | [a] => f a.toNat
  | _ => .badFormat

/-- A body of one 16-bit field. -/
def oneHalf (fields : List Byte) (f : Nat → Request) : Request :=
  match fields with
  | [a, b] => f (num16 a b)
  | _ => .badFormat

def decodeSetParameters : List Byte → Request
  | [jp, rb1, rb0, st1, st0, rt, rl, ft, nw, fg] =>
    .setParameters
      { joinPolicy := jp.toNat, runBase := num16 rb1 rb0, settleTime := num16 st1 st0, replyTime := rt.toNat,
        retryLimit := rl.toNat, faultThreshold := ft.toNat, noticeWindow := nw.toNat, frameGapTime := fg.toNat }
  | _ => .badFormat

def decodeDefineClass : List Byte → Request
  | [c1, c0, rank, s1, s0, ex, sp, rv, ai, a1, a0] =>
    .defineClass
      { code := num16 c1 c0, rank := rank.toNat, size := num16 s1 s0, exponent := ex.toNat, span := sp.toNat,
        reserve := rv.toNat, anchorIndication := ai.toNat, anchorBase := num16 a1 a0 }
  | _ => .badFormat

def decodeAccessRead : List Byte → Request
  | [v1, v0, a1, a0, c] => .accessRead (num16 v1 v0) (num16 a1 a0) c.toNat
  | _ => .badFormat

/-- The fixed part followed by any whole number of data words from 0 to 32 (R150, R168). -/
def decodeAccessWrite : List Byte → Request
  | v1 :: v0 :: a1 :: a0 :: c :: data =>
    match wordsOf data with
    | some ws =>
      if ws.length ≤ Config.maxLaneWords then .accessWrite (num16 v1 v0) (num16 a1 a0) c.toNat ws else .badFormat
    | none => .badFormat
  | _ => .badFormat

def decodeSetEventEnable : List Byte → Request
  | [first, c1, c0, setting] => .setEventEnable first.toNat (num16 c1 c0) setting.toNat
  | _ => .badFormat

def decodeReadCounters : List Byte → Request
  | [selector, lane, clear] => .readCounters selector.toNat lane.toNat clear.toNat
  | _ => .badFormat

/-- The request a body is, by its code and then its length (R150, R168). A request without fields has one filler byte
that is not examined (R167). -/
def decodeRequest (r : HostRequest) : Request :=
  if r.code = 0x01 then oneByte r.fields fun _ => .queryPart
  else if r.code = 0x02 then decodeSetParameters r.fields
  else if r.code = 0x03 then oneByte r.fields fun _ => .readParameters
  else if r.code = 0x04 then oneByte r.fields .restart
  else if r.code = 0x08 then decodeDefineClass r.fields
  else if r.code = 0x09 then oneHalf r.fields .dropClass
  else if r.code = 0x0A then oneByte r.fields .readClass
  else if r.code = 0x0C then oneByte r.fields .readPlacement
  else if r.code = 0x0D then oneByte r.fields .readDraft
  else if r.code = 0x0E then oneHalf r.fields .commitPlacement
  else if r.code = 0x10 then oneByte r.fields .readSlot
  else if r.code = 0x11 then oneByte r.fields .resetSlot
  else if r.code = 0x12 then oneByte r.fields .releaseSlot
  else if r.code = 0x14 then decodeAccessRead r.fields
  else if r.code = 0x15 then decodeAccessWrite r.fields
  else if r.code = 0x16 then oneByte r.fields fun t => .cancelAccess (byteOf t)
  else if r.code = 0x18 then oneHalf r.fields .acknowledgeNotices
  else if r.code = 0x19 then oneHalf r.fields .resendNotices
  else if r.code = 0x1A then decodeSetEventEnable r.fields
  else if r.code = 0x1B then decodeReadCounters r.fields
  else .unknown

/-- The parameters of an acceptable Set Parameters; none where a value lies outside its range (R157, R158). -/
def ParamFields.check (f : ParamFields) : Option Params :=
  if f.joinPolicy ≤ 1 ∧ f.runBase ≤ Config.max16 ∧ 10 ≤ f.settleTime ∧ f.settleTime ≤ 2000 ∧ 1 ≤ f.replyTime
      ∧ f.replyTime ≤ 250 ∧ f.retryLimit ≤ 3 ∧ 1 ≤ f.faultThreshold ∧ f.faultThreshold ≤ 8 ∧ 1 ≤ f.noticeWindow
      ∧ f.noticeWindow ≤ 16 ∧ 2 ≤ f.frameGapTime ∧ f.frameGapTime ≤ 100 then
    some
      { joinPolicy := if f.joinPolicy = 0 then .fillOnly else .autoCommit, runBase := f.runBase,
        settleTime := f.settleTime, replyTime := f.replyTime, retryLimit := f.retryLimit,
        faultThreshold := f.faultThreshold, noticeWindow := f.noticeWindow, frameGapTime := f.frameGapTime }
  else none

/-- The entry of a Define Class that passes check 1 of R4; none for BAD_PARAM. The anchor base is not examined where
the anchor indication is absent (R168). -/
def ClassFields.check (f : ClassFields) : Option ClassEntry :=
  if f.code = 0 ∨ 0xFFFF ≤ f.code ∨ 31 < f.rank ∨ f.size = 0 ∨ 4096 < f.size ∨ 12 < f.exponent ∨ 16 < f.span
      ∨ 3 < f.reserve ∨ 1 < f.anchorIndication then none
  else if f.anchorIndication = 1 ∧ (f.anchorBase % 2 ^ f.exponent ≠ 0 ∨ Config.windowSpace < f.anchorBase + f.size)
    then none
  else
    some
      { code := f.code, rank := f.rank, size := f.size, exponent := f.exponent, span := f.span, reserve := f.reserve,
        anchor := if f.anchorIndication = 1 then some f.anchorBase else none }

/-- The slot a slot number names; none above 15 (R70, R72, R80). -/
def slotNo? (n : Nat) : Option SlotNo := if h : n < Config.slotCount then some ⟨n, h⟩ else none

end Sys2Proof.Machine
end

