-- ==== Sys2Proof/Machine/Packing.lean ====
section
/-! DEFINITION. Chapter 2: the packing procedure, which computes a draft from the catalogue, Run Base, the participating set and the anchor regions. -/

namespace Sys2Proof.Machine

/-- An extent [base, base + size) of window space. -/
structure Region where
  base : Nat
  size : Nat
  deriving DecidableEq, Repr

/-- Two extents of window space share a word. -/
def Region.overlaps (a b : Region) : Bool := a.base < b.base + b.size && b.base < a.base + a.size

/-- The anchor region of an anchored class (R3). -/
def ClassEntry.region? (c : ClassEntry) : Option Region := c.anchor.map fun b => ⟨b, c.size⟩

/-- The anchor regions the packing steps over: those of every anchored class in the catalogue (R18). -/
def anchorRegions (catalogue : List ClassEntry) : List Region := catalogue.filterMap ClassEntry.region?

/-- The event alignment of an event span: the smallest power of two not less than it, and 1 for a span of 0 (R2). -/
def eventAlignment (span : Nat) : Nat :=
  if span ≤ 1 then 1 else if span ≤ 2 then 2 else if span ≤ 4 then 4 else if span ≤ 8 then 8 else 16

/-- `n` rounded up to a multiple of `m` (R23, R25). -/
def roundUp (n m : Nat) : Nat := (n + (m - 1)) / m * m

/-- A participating slot with the class code it was last judged under (R17). -/
structure Member where
  slot : SlotNo
  code : Nat
  deriving DecidableEq, Repr

/-- The four inputs of a draft; the anchor regions come from the catalogue (R15). `members` is in ascending slot
number. -/
structure DraftInputs where
  catalogue : List ClassEntry
  runBase : Nat
  members : List Member
  deriving DecidableEq, Repr

/-- An item of a class group (R20). -/
inductive Item where
  | anchorHolder (c : ClassEntry) (base : Nat) (slot : Option SlotNo)
  | module (c : ClassEntry) (slot : SlotNo)
  | reserve (c : ClassEntry)
  | fence (c : ClassEntry)
  deriving DecidableEq, Repr

/-- The participating slots of a class, in the order of the members. -/
def slotsOfClass (members : List Member) (code : Nat) : List SlotNo :=
  (members.filter fun m => m.code == code).map Member.slot

/-- The run items of a group and its fence, which stands when there is at least one run item (R20, R27). -/
def runItems (c : ClassEntry) (others : List SlotNo) : List Item :=
  let items := others.map (Item.module c) ++ List.replicate c.reserve (Item.reserve c)
  if items.isEmpty then [] else items ++ [Item.fence c]

/-- The items of a class group in the order of R20. A class that is unanchored, has reserve 0 and no member has none
(R19). -/
def groupItems (members : List Member) (c : ClassEntry) : List Item :=
  let slots := slotsOfClass members c.code
  match c.anchor with
  | some base => Item.anchorHolder c base slots.head? :: runItems c slots.tail
  | none => runItems c slots

/-- The walk: the items of every group in ascending rank (R19). -/
def walkItems (inputs : DraftInputs) : List Item := inputs.catalogue.flatMap (groupItems inputs.members)

/-- The two cursors of one computation (R22). -/
structure Cursors where
  window : Nat
  event : Nat
  deriving DecidableEq, Repr

/-- The lowest-based of the regions that an extent overlaps (R23, step 2). -/
def lowestOverlapped (regions : List Region) (extent : Region) : Option Region :=
  (regions.filter (Region.overlaps extent)).foldl
    (fun best r => match best with
      | none => some r
      | some b => if r.base < b.base then some r else some b) none

/-- Step 2 of R23: while the extent at the candidate overlaps anchor regions, the candidate becomes the end of the
lowest-based of them, rounded up again. Each move leaves a region behind for good, so as many moves as there are
regions suffice. -/
def stepOver (regions : List Region) (size align : Nat) : Nat → Nat → Nat
  | 0, candidate => candidate
  | moves + 1, candidate =>
    match lowestOverlapped regions ⟨candidate, size⟩ with
    | none => candidate
    | some r => stepOver regions size align moves (roundUp (r.base + r.size) align)

/-- The base of a run item, or of a fence with size 1 and alignment 1; none where it does not fit (R23, R27). -/
def findBase (regions : List Region) (cursor size align : Nat) : Option Nat :=
  let base := stepOver regions size align regions.length (roundUp cursor align)
  if base + size ≤ Config.windowSpace then some base else none

/-- The event range an item of a span takes at the event cursor, and the cursor after it; none where it does not
fit (R25). -/
def findEvents (cursor span : Nat) : Option (Option EventRange × Nat) :=
  if span = 0 then some (none, cursor)
  else
    let base := roundUp cursor (eventAlignment span)
    if base + span ≤ Config.eventSpace then some (some ⟨base, span⟩, base + span) else none

/-- A run item of class `c`: its window first, then its event range, both or neither (R26). -/
def placeRun (regions : List Region) (c : ClassEntry) (kind : EntryKind) (cur : Cursors) : Option (Entry × Cursors) :=
  match findBase regions cur.window c.size (2 ^ c.exponent), findEvents cur.event c.span with
  | some base, some (events, event') =>
    some (⟨kind, base, c.size, c.code, false, events⟩, ⟨base + c.size, event'⟩)
  | _, _ => none

/-- Places one item: its entry and the cursors after it, or none where it does not fit (R21, R24, R26, R27). -/
def placeItem (regions : List Region) (item : Item) (cur : Cursors) : Option (Entry × Cursors) :=
  match item with
  | .anchorHolder c base slot =>
    (findEvents cur.event c.span).map fun (events, event') =>
      (⟨(slot.map EntryKind.window).getD .heldAnchor, base, c.size, c.code, true, events⟩, ⟨cur.window, event'⟩)
  | .module c k => placeRun regions c (.window k) cur
  | .reserve c => placeRun regions c .reserve cur
  | .fence c =>
    (findBase regions cur.window 1 1).map fun base =>
      (⟨.fence, base, 1, c.code, false, none⟩, ⟨base + 1, cur.event⟩)

/-- The entries of the walk in the order they are laid out; the first item that does not fit ends it (R28). -/
def packItems (regions : List Region) : List Item → Cursors → List Entry
  | [], _ => []
  | item :: rest, cur =>
    match placeItem regions item cur with
    | some (e, cur') => e :: packItems regions rest cur'
    | none => []

/-- Inserts an entry before the first of a higher base. -/
def insertByBase (e : Entry) : List Entry → List Entry
  | [] => [e]
  | x :: xs => if e.base < x.base then e :: x :: xs else x :: insertByBase e xs

/-- Entries in ascending base order (R31, R37). -/
def sortByBase (entries : List Entry) : List Entry := entries.foldr insertByBase []

/-- The draft of a set of inputs (R15 to R31). -/
def DraftInputs.draft (inputs : DraftInputs) : List Entry :=
  sortByBase (packItems (anchorRegions inputs.catalogue) (walkItems inputs) ⟨inputs.runBase, 0⟩)

/-- The slot is fitted: a WINDOW of the entries names it (R29). -/
def windowOf (entries : List Entry) (k : SlotNo) : Option Entry :=
  entries.find? fun e => decide (e.kind = .window k)

/-- The number of members a draft lays out (R29). -/
def DraftInputs.fittedCount (inputs : DraftInputs) : Nat :=
  (inputs.members.filter fun m => (windowOf inputs.draft m.slot).isSome).length

/-- The number of members a draft leaves out (R29). -/
def DraftInputs.unfitCount (inputs : DraftInputs) : Nat := inputs.members.length - inputs.fittedCount

/-- One page of a list of entries from a start index (R33, R57). -/
def pageOf (entries : List Entry) (start : Nat) : List Entry := (entries.drop start).take Config.pageSize

end Sys2Proof.Machine
end

