-- ==== Sys2Proof/Machine/Ops.lean ====
section
/-! DEFINITION. The named operations over each block's state: slots, catalogue lookups, blocks, the Transaction Table, replies, notices, and the Host Link transmitter. -/

namespace Sys2Proof.Machine

/-! ## Slots -/

/-- The sixteen slot numbers in ascending order. -/
def slotNumbers : List SlotNo := List.finRange 16

/-- The Slot Controller of a slot. -/
def State.slot (s : State) (k : SlotNo) : Slot := s.slots[k]

/-- Replaces one Slot Controller by a function of it. -/
def State.modSlot (s : State) (k : SlotNo) (f : Slot → Slot) : State :=
  { s with slots := s.slots.set k (f s.slots[k]) }

/-- Replaces one lane engine by a function of it. -/
def State.modLane (s : State) (k : SlotNo) (f : Lane → Lane) : State :=
  s.modSlot k fun sl => { sl with lane := f sl.lane }

/-- Counts on one lane's counters. -/
def State.countLane (s : State) (k : SlotNo) (f : LaneCounters → LaneCounters) : State :=
  s.modLane k fun l => { l with counters := f l.counters }

/-- PENDING, PLACED and DRAINING slots participate (R17). -/
def SlotState.participates : SlotState → Bool
  | .pending _ => true
  | .placed => true
  | .draining _ => true
  | _ => false

/-- PLACED and DRAINING slots hold a WINDOW (R38). -/
def SlotState.holdsWindow : SlotState → Bool
  | .placed => true
  | .draining _ => true
  | _ => false

/-- The slot's module is being ignored until the settle period has passed: EMPTY or SETTLING (R84). -/
def SlotState.unjudged : SlotState → Bool
  | .empty => true
  | .settling => true
  | _ => false

/-- The class code a slot last reported, 0x0000 where no identity is recorded (R68). -/
def Slot.classCode (sl : Slot) : Nat := (sl.identity.map Identity.classCode).getD 0

/-- Enters a state. Resync required is cleared when the new state is not PENDING, PLACED or DRAINING (R95). -/
def Slot.enter (sl : Slot) (st : SlotState) : Slot :=
  { sl with state := st, lane := { sl.lane with resyncRequired := sl.lane.resyncRequired && st.participates } }

/-! ## Placement Engine -/

/-- The catalogue entry of a class code (R11). -/
def PlacementEngine.lookup (pe : PlacementEngine) (code : Nat) : Option ClassEntry :=
  pe.catalogue.find? fun c => c.code == code

/-- The catalogue entry of a rank (R10). -/
def PlacementEngine.atRank (pe : PlacementEngine) (rank : Nat) : Option ClassEntry :=
  pe.catalogue.find? fun c => c.rank == rank

/-- Inserts a class entry in rank order (R1, R5). -/
def insertByRank (c : ClassEntry) : List ClassEntry → List ClassEntry
  | [] => [c]
  | x :: xs => if c.rank < x.rank then c :: x :: xs else x :: insertByRank c xs

/-- The catalogue without the entry of a code. -/
def withoutClass (catalogue : List ClassEntry) (code : Nat) : List ClassEntry :=
  catalogue.filter fun c => !(c.code == code)

def EntryKind.isWindow : EntryKind → Bool
  | .window _ => true
  | _ => false

/-- The Active Placement without the RESERVE, VACANCY, HELD_ANCHOR and FENCE entries of a code (R6, R9). -/
def withoutUnused (placement : List Entry) (code : Nat) : List Entry :=
  placement.filter fun e => e.kind.isWindow || !(e.classCode == code)

/-- The entry that holds a window address (R53). -/
def entryAt (placement : List Entry) (address : Nat) : Option Entry :=
  placement.find? fun e => e.base ≤ address && address < e.base + e.size

/-- The number of WINDOW entries of a class (R39). -/
def liveCount (placement : List Entry) (code : Nat) : Nat :=
  (placement.filter fun e => e.kind.isWindow && e.classCode == code).length

/-- The fence word: class code in bits 31 to 16, live count in bits 15 to 0 (R39, R169). -/
def fenceWordOf (placement : List Entry) (code : Nat) : Word := BitVec.ofNat 32 (code * 65536 + liveCount placement code)

/-- Increments the draft stamp for one event of the table of R41. -/
def State.bumpStamp (s : State) : State := { s with pe := { s.pe with stamp := nextStamp s.pe.stamp } }

/-- The participating slots with their class codes, in ascending slot number (R17). -/
def State.members (s : State) : List Member :=
  (slotNumbers.filter fun k => (s.slot k).state.participates).map fun k => ⟨k, (s.slot k).classCode⟩

/-- The inputs of the draft as they stand (R15). -/
def State.draftInputs (s : State) : DraftInputs :=
  { catalogue := s.pe.catalogue, runBase := s.params.runBase, members := s.members }

/-! ## Buffer Pool -/

/-- The blocks whose owner record is free, in ascending order (R106). -/
def Pool.freeBlocks (pool : Pool) : List BlockNo := (List.finRange 96).filter fun b => pool[b].owner = .free

/-- The blocks an access of a count needs, ceil(count / 8) (R106). -/
def blocksFor (count : Nat) : Nat := (count + 7) / 8

/-- Gives the blocks of a list an owner (R107). -/
def Pool.setOwner (pool : Pool) (blocks : List BlockNo) (owner : BlockOwner) : Pool :=
  Vector.ofFn fun b : Fin 96 => if b ∈ blocks then { pool[b] with owner := owner } else pool[b]

/-- Stores words in the blocks of a list, 8 to a block in the order of the list; words beyond the data keep their
value (R106). -/
def Pool.store (pool : Pool) (blocks : List BlockNo) (ws : List Word) : Pool :=
  Vector.ofFn fun b : Fin 96 =>
    if b ∈ blocks then
      { pool[b] with words := Vector.ofFn fun i : Fin 8 => ws.getD (8 * blocks.idxOf b + i.val) pool[b].words[i] }
    else pool[b]

/-! ## Transaction Table and Lane Queues -/

/-- The Lane Queue of a slot: its entries in the order of acceptance (R105). -/
def State.laneQueue (s : State) (k : SlotNo) : List Transaction := s.transactions.filter fun t => t.slot == k

/-- The entry in use that holds a host tag (R121). -/
def State.transaction? (s : State) (tag : Byte) : Option Transaction := s.transactions.find? fun t => t.tag == tag

/-- Sets the state of the entry that holds a host tag. -/
def State.setTransactionState (s : State) (tag : Byte) (st : TransactionState) : State :=
  { s with transactions := s.transactions.map fun t => if t.tag == tag then { t with state := st } else t }

/-- The replies owed: those in the Reply Queue plus the transactions in use (R149). -/
def State.owed (s : State) : Nat := s.hli.replies.length + s.transactions.length

/-- The tag is held by a request of the Host Request Queue or by a transaction (R147). -/
def State.tagInUse (s : State) (tag : Byte) : Bool :=
  s.hli.requests.any (fun r => r.tag == tag) || s.transactions.any (fun t => t.tag == tag)

/-! ## Replies -/

/-- The reply code of a request code: the code plus 0x80 up to 0x7F, the code itself above (R148). -/
def replyCode (code : Byte) : Byte := if code.toNat < 0x80 then code + 0x80 else code

/-- Produces a reply: it joins the tail of the Reply Queue (R151). -/
def State.reply (s : State) (code tag : Byte) (status : Status) (fields : ReplyFields) : State :=
  { s with hli := { s.hli with replies := s.hli.replies ++ [⟨replyCode code, tag, status, fields⟩] } }

/-- The reply to a request that has been taken. -/
def State.answer (s : State) (r : HostRequest) (status : Status) (fields : ReplyFields) : State :=
  s.reply r.code r.tag status fields

/-- The request code of a transaction's request (R119, R150). -/
def AccessKind.code : AccessKind → Byte
  | .read => 0x14
  | .write => 0x15

/-- Ends a transaction: its blocks pass to the owner given, its entry leaves the Transaction Table and its Lane
Queue, its tag is released, and its one reply is produced (R107, R119). -/
def State.endTransaction (s : State) (t : Transaction) (owner : BlockOwner) (status : Status)
    (fields : ReplyFields) : State :=
  State.reply
    { s with
      pool := s.pool.setOwner t.blocks owner
      transactions := s.transactions.filter fun u => !(u.tag == t.tag) }
    t.kind.code t.tag status fields

/-- Ends a transaction without data: its blocks are freed and the reply carries its generation at translation
(R107, R119). -/
def State.endWithout (s : State) (t : Transaction) (status : Status) : State :=
  s.endTransaction t .free status (.generation t.generation)

/-- Ends a transaction with CANCELLED and an outcome (R119, R123). -/
def State.endCancelled (s : State) (t : Transaction) (outcome : CancelOutcome) : State :=
  s.endTransaction t .free .cancelled (.cancelled t.generation outcome)

/-- Ends every transaction of a slot's Lane Queue from head to tail as its tenure ends: a CANCELLING one with
CANCELLED and UNKNOWN, the others with the status given (R117). -/
def State.endTenure (s : State) (k : SlotNo) (status : Status) : State :=
  (s.laneQueue k).foldl
    (fun s t => if t.state = .cancelling then s.endCancelled t .unknown else s.endWithout t status) s

/-- Ends every transaction of a slot's Lane Queue from head to tail with ABORTED, whatever its state (R118). -/
def State.abortQueue (s : State) (k : SlotNo) : State :=
  (s.laneQueue k).foldl (fun s t => s.endWithout t .aborted) s

/-! ## Attention Unit -/

/-- Queues a notice at the tail, at the next sequence number, in state NEW (R125, R127). -/
def AttentionUnit.append (au : AttentionUnit) (kind : NoticeKind) : AttentionUnit :=
  { au with queue := au.queue ++ [⟨au.nextSeq, kind, .fresh⟩], nextSeq := nextSequence au.nextSeq }

/-- A system notice other than SUMMARY is queued, or lost and counted (R130). -/
def AttentionUnit.post (au : AttentionUnit) (kind : NoticeKind) : AttentionUnit :=
  if au.summaryDue then { au with lostCount := bumpLost au.lostCount }
  else if au.queue.length < Config.attentionCapacity then au.append kind
  else { au with summaryDue := true, lostCount := 1 }

def NoticeKind.isEvent : NoticeKind → Bool
  | .event _ _ _ _ _ => true
  | _ => false

/-- The number of EVENT notices queued (R129). -/
def AttentionUnit.eventCount (au : AttentionUnit) : Nat := (au.queue.filter fun n => n.kind.isEvent).length

/-- The AU can take a module event: at least 9 entries free and fewer than 56 EVENT notices queued (R129). -/
def AttentionUnit.admitsEvent (au : AttentionUnit) : Bool :=
  au.queue.length ≤ Config.eventRoom && au.eventCount < Config.eventCapacity

/-- The number of SENT notices (R125). -/
def AttentionUnit.sentCount (au : AttentionUnit) : Nat := (au.queue.filter fun n => n.delivery = .sent).length

/-- The notice on offer: the oldest NEW notice, while the SENT notices number fewer than the Notice Window
(R132). -/
def AttentionUnit.offer (au : AttentionUnit) (noticeWindow : Nat) : Option Notice :=
  if au.sentCount < noticeWindow then au.queue.find? (fun n => n.delivery = .fresh) else none

/-- The position of a queued sequence number, its distance from the oldest (R127); none where it is not queued. -/
def AttentionUnit.position? (au : AttentionUnit) (q : Nat) : Option Nat :=
  match au.queue with
  | [] => none
  | oldest :: _ =>
    let p := if oldest.seq ≤ q then q - oldest.seq else q + Config.max16 - oldest.seq
    if 1 ≤ q ∧ q ≤ Config.max16 ∧ p < au.queue.length then some p else none

/-- The sequence number of the oldest queued notice, 0 when the queue is empty (R134). -/
def AttentionUnit.oldestSeq (au : AttentionUnit) : Nat := (au.queue.head?.map Notice.seq).getD 0

/-- A SUMMARY is queued as soon as an entry frees while Summary Due is set (R131). -/
def AttentionUnit.summarise (au : AttentionUnit) : AttentionUnit :=
  if au.summaryDue then { au.append (.summary au.lostCount) with summaryDue := false, lostCount := 0 } else au

/-- Removes the notices through a position; then the SUMMARY, where one is due (R134). -/
def AttentionUnit.acknowledge (au : AttentionUnit) (position : Nat) : AttentionUnit :=
  AttentionUnit.summarise { au with queue := au.queue.drop (position + 1) }

/-- Makes a notice NEW. -/
def Notice.renew (n : Notice) : Notice := { n with delivery := .fresh }

/-- The SENT notices whose position is not below the one given become NEW (R136). -/
def AttentionUnit.resend (au : AttentionUnit) (position : Nat) : AttentionUnit :=
  { au with queue := au.queue.take position ++ (au.queue.drop position).map Notice.renew }

/-- The notice of a sequence number becomes SENT, provided it is queued and every older notice is SENT (R132). -/
def markSent (q : Nat) : List Notice → List Notice
  | [] => []
  | n :: rest =>
    if n.seq = q then { n with delivery := .sent } :: rest
    else if n.delivery = .sent then n :: markSent q rest
    else n :: rest

/-- Posts a system notice (R128, R130). -/
def State.post (s : State) (kind : NoticeKind) : State := { s with au := s.au.post kind }

/-! ## The Host Link transmitter -/

/-- The arbiter's choice when the transmitter is idle: the frame to send, with its source (R152, R153). -/
def State.chooseFrame (s : State) : Option HostSending :=
  let notice := (s.au.offer s.params.noticeWindow).map fun n => (⟨.notice n.seq, hostFrame n.toBody⟩ : HostSending)
  let reply := s.hli.replies.head?.map fun r => (⟨.reply, hostFrame (r.toBody s.pool)⟩ : HostSending)
  match s.hli.refusal with
  | some r => some ⟨.refusal, hostFrame r.toBody⟩
  | none =>
    if s.hli.sinceNotice = Config.noticeTurn then notice <|> reply
    else reply <|> notice

/-- An idle transmitter takes the arbiter's choice (R152). Every step of the part ends with this (log 8). -/
def State.transmit (s : State) : State :=
  match s.hli.sending with
  | some _ => s
  | none => { s with hli := { s.hli with sending := s.chooseFrame } }

/-- A step that is not the taking of a request: `f` gives its effect, and none where the step cannot come about in
the state the part is in, which then stays as it is (log 3). Nothing is taken while the power-on reset is applied
(R165). -/
def State.event (s : State) (f : State → Option State) : Host.Outcome State Fault Refusal :=
  if s.held then .next s
  else
    match f s with
    | some s' => .next s'.transmit
    | none => .next s

/-- The byte that a step brings on a serial line; none where the line shows no start bit, so that no byte begins
(R142; log 1). -/
def takeLine? (line : LineByte) : Option Byte := if line.start then none else some (byteOnLine line)

/-- A step of one slot; a number that names no slot leaves the part as it is (log 15). -/
def State.slotEvent (s : State) (slot : Nat) (f : SlotNo → State → Option State) : Host.Outcome State Fault Refusal :=
  match slotNo? slot with
  | some k => s.event (f k)
  | none => .next s

/-- The state after the head has left the Host Request Queue (R149). -/
def State.dropHead (s : State) : State := { s with hli := { s.hli with requests := s.hli.requests.tail } }

/-- The request that can be taken now: the head, while fewer than 48 replies are owed and no reset is applied
(R149, R165). -/
def State.head? (s : State) : Option HostRequest :=
  if s.held then none else if s.owed < Config.owedLimit then s.hli.requests.head? else none

/-- The step that takes the head (R149, R150). `serve` gives the effect of the requests the command stands for, on
the state the head has left; where the head is no such request, or cannot be taken, the step does not come about and
the part stays as it is (log 3). -/
def State.take (s : State) (serve : HostRequest → Request → State → Option State) : Host.Outcome State Fault Refusal :=
  match s.head? with
  | none => .next s
  | some r =>
    match serve r (decodeRequest r) s.dropHead with
    | some s' => .next s'.transmit
    | none => .next s

end Sys2Proof.Machine
end

