-- ==== Sys2Proof/Machine/Lane.lean ====
section
/-! DEFINITION. Chapter 5: the lane engine. Phases, the end and the beginning of exchanges, the lane transmitter, and the lane receiver. -/

namespace Sys2Proof.Machine

/-! ## The end of an exchange -/

/-- The frame being sent, if it belongs to the source given, belongs to nothing any more; it is finished all the same
(R86, R93). -/
def LaneSending.orphan (f : LaneSending) (source : LaneSource) : LaneSending :=
  if f.source = source then { f with source := .abandoned } else f

/-- The exchange record is removed, its timer and its waiting frame with it (R89, R92, R93). -/
def Lane.dropExchange (l : Lane) : Lane :=
  { l with exchange := none, sending := l.sending.map fun f => f.orphan .exchange }

/-- An exchange ends without a matching answer: the outbound phase flips (R88). -/
def Lane.endUnmatched (l : Lane) : Lane := { l.dropExchange with outboundPhase := !l.outboundPhase }

def ExchangeKind.isProbe : ExchangeKind → Bool
  | .probe _ => true
  | _ => false

/-- An exchange ends with a matching answer: after a PROBE the outbound phase and the last accepted event phase are
0, after any other the outbound phase flips (R88). -/
def Lane.endMatched (l : Lane) (kind : ExchangeKind) : Lane :=
  if kind.isProbe then { l.dropExchange with outboundPhase := false, lastEventPhase := false }
  else l.endUnmatched

/-- What is outstanding is abandoned: the phase flips where an exchange was, and resync required is cleared (R93,
log 17). -/
def Lane.abandon (l : Lane) : Lane :=
  let l := if l.exchange.isSome then l.endUnmatched else l
  { l with resyncRequired := false }

/-- The lane as presence loss and Restart leave it: as after a power-on reset, but the receiver and the counters are
kept and a frame begun is finished (R85, R88, R93). -/
def Lane.quiesce (l : Lane) : Lane :=
  { Lane.powerOn with
    sending := l.sending.map fun f => (f.orphan .exchange).orphan .eventAnswer
    receiver := l.receiver
    counters := l.counters }

/-! ## The lane transmitter (R86) -/

/-- The frame of an exchange: the first send and every retry carry the same fields, and a WRITE takes its words from
the blocks of its transaction (R83, R90, R107, R113). -/
def State.exchangeFrame (s : State) (x : Exchange) : LaneFrame :=
  match x.kind with
  | .probe _ => { kind := .probe, phase := x.phase, argument := 0, count := 0, payload := [] }
  | .read _ offset count => { kind := .read, phase := x.phase, argument := offset, count := count, payload := [] }
  | .write tag offset count =>
    { kind := .write, phase := x.phase, argument := offset, count := count,
      payload := ((s.transaction? tag).map fun t => s.pool.read t.blocks count).getD [] }
  | .halt => { kind := .halt, phase := x.phase, argument := 0, count := 0, payload := [] }

/-- The frame of an event answer (R83). -/
def EventAnswer.frame (a : EventAnswer) : LaneFrame :=
  { kind := if a.accepted then .evack else .evwait, phase := a.phase, argument := 0, count := 0, payload := [] }

/-- An idle lane transmitter takes the pending event answer, or else the waiting frame of the exchange (R86). -/
def State.laneTransmit (s : State) (k : SlotNo) : State :=
  let l := (s.slot k).lane
  match l.sending, l.eventAnswer, l.exchange with
  | some _, _, _ => s
  | none, some a, _ =>
    s.modLane k fun l => { l with sending := some ⟨.eventAnswer, s.params.replyTime, a.frame.toBytes⟩ }
  | none, none, some x =>
    if x.frameWaiting then
      s.modLane k fun l =>
        { l with
          sending := some ⟨.exchange, s.params.replyTime, (s.exchangeFrame x).toBytes⟩
          exchange := some { x with frameWaiting := false } }
    else s
  | none, none, none => s

/-- The lane transmitter finishes its frame: an exchange frame starts the Reply Time timer with the length in force
when its sending began, and an event answer is pending no more (R86; log 9, 10). -/
def Lane.frameSent (l : Lane) (f : LaneSending) : Lane :=
  let l := { l with sending := none, counters := { l.counters with sentFrames := bump l.counters.sentFrames } }
  match f.source with
  | .exchange => { l with exchange := l.exchange.map fun x => { x with timer := some f.replyTime } }
  | .eventAnswer => { l with eventAnswer := none }
  | .abandoned => l

/-! ## The beginning of an exchange (R87) -/

/-- The exchange record of a new exchange: the outbound phase as it stands, send count 1, its first frame waiting for
the transmitter (R87). -/
def Lane.start (l : Lane) (kind : ExchangeKind) : Lane :=
  { l with
    exchange := some
      { kind := kind, phase := l.outboundPhase, sends := 1, frameWaiting := true, timer := none, cancelled := false,
        releaseEnded := false } }

/-- The READ or WRITE of a transaction (R113). -/
def Transaction.exchangeKind (t : Transaction) : ExchangeKind :=
  match t.kind with
  | .read => .read t.tag t.offset t.count
  | .write => .write t.tag t.offset t.count

/-- The oldest WAITING transaction of a slot's Lane Queue (R113). -/
def State.oldestWaiting (s : State) (k : SlotNo) : Option Transaction :=
  (s.laneQueue k).find? fun t => t.state = .waiting

/-- The exchange a lane without one begins: the first of the list of R87 whose condition holds. -/
def State.nextExchange (s : State) (k : SlotNo) : Option ExchangeKind :=
  let sl := s.slot k
  if sl.state = .probing then some (.probe .first)
  else if sl.lane.resyncRequired then some (.probe .resync)
  else
    match if sl.state.participates then s.oldestWaiting k else none with
    | some t => some t.exchangeKind
    | none => if sl.state = .draining false ∧ (s.laneQueue k).isEmpty then some .halt else none

/-- What else the beginning of an exchange does: a transaction becomes IN_EXCHANGE (R113), a resync PROBE is counted
(R95), HALT sets halt sent (R73). -/
def State.exchangeBegun (s : State) (k : SlotNo) (kind : ExchangeKind) : State :=
  match kind with
  | .probe .first => s
  | .probe .resync => s.countLane k fun c => { c with resyncs := bump c.resyncs }
  | .read tag _ _ => s.setTransactionState tag .inExchange
  | .write tag _ _ => s.setTransactionState tag .inExchange
  | .halt => s.modSlot k fun sl => sl.enter (.draining true)

/-- A lane with no exchange outstanding begins the next one; a free transmitter takes the next frame (R86, R87). -/
def State.advance (s : State) (k : SlotNo) : State :=
  let s :=
    if (s.slot k).lane.exchange.isSome then s
    else
      match s.nextExchange k with
      | some kind => (s.modLane k fun l => l.start kind).exchangeBegun k kind
      | none => s
  s.laneTransmit k

/-! ## The lane receiver (R172) -/

/-- What one byte does to a lane receiver. -/
inductive LaneDelimited where
  | discarded
  | more (received : List Byte)
  | tooLong
  | complete (received : List Byte)
  deriving DecidableEq, Repr

/-- Delimits a lane frame: 0xC3 begins one; then header, argument, word count, the announced payload and two check
bytes. A word count above 32 ends the frame as bad at once (R172). `received` excludes the start byte. -/
def LaneReceiver.take (r : LaneReceiver) (b : Byte) : LaneDelimited :=
  match r with
  | .between => if b = Config.laneStart then .more [] else .discarded
  | .inside received =>
    let received := received ++ [b]
    match received[3]? with
    | none => .more received
    | some count =>
      if Config.maxLaneWords < count.toNat then .tooLong
      else if received.length < 4 + 4 * count.toNat + 2 then .more received
      else .complete received

/-- A frame ends without being judged good: counted as ignored while the slot is EMPTY or SETTLING, as bad in any
other state (R84, R172). -/
def State.countUngood (s : State) (k : SlotNo) : State :=
  s.countLane k fun c =>
    if (s.slot k).state.unjudged then { c with ignoredFrames := bump c.ignoredFrames }
    else { c with badFrames := bump c.badFrames }

def State.setLaneReceiver (s : State) (k : SlotNo) (r : LaneReceiver) : State :=
  s.modLane k fun l => { l with receiver := r }

end Sys2Proof.Machine
end

