-- ==== Sys2Proof/Machine/Placement.lean ====
section
/-! DEFINITION. Chapter 3: joins, departures, commits and translation over the Active Placement. -/

namespace Sys2Proof.Machine

/-! ## Departures (R48, R49) -/

/-- The entry of a departed module: a VACANCY, or the HELD_ANCHOR of its class where it was anchored (R48). -/
def Entry.vacated (e : Entry) : Entry := { e with kind := if e.anchored then .heldAnchor else .vacancy }

/-- The Active Placement after the WINDOW of a slot has been converted in place (R48). -/
def vacate (placement : List Entry) (k : SlotNo) : List Entry :=
  placement.map fun e => if e.kind = .window k then e.vacated else e

/-- A slot leaves its state for another that is not PLACED or DRAINING: a window it held becomes a hole, and leaving
the participating set increments the draft stamp once (R48, R49). -/
def State.leave (s : State) (k : SlotNo) (st : SlotState) : State :=
  let old := (s.slot k).state
  let s := if old.holdsWindow then { s with pe := { s.pe with placement := vacate s.pe.placement k } } else s
  let s := if old.participates then s.bumpStamp else s
  s.modSlot k fun sl => sl.enter st

/-! ## Commits (R50, R51) -/

/-- The release-ended mark of an outstanding HALT is set (R75, R85). -/
def Exchange.endRelease (x : Exchange) : Exchange :=
  { x with releaseEnded := x.releaseEnded || decide (x.kind = .halt) }

/-- What a commit makes of a slot that is or is not fitted in the draft (R50, R75). -/
def Slot.commit (sl : Slot) (fitted : Bool) : Slot :=
  match sl.state with
  | .pending _ => sl.enter (if fitted then .placed else .pending .noSpace)
  | .placed => if fitted then sl else sl.enter (.pending .noSpace)
  | .draining _ =>
    if fitted then sl
    else
      let sl := sl.enter (.pending .noSpace)
      { sl with lane := { sl.lane with exchange := sl.lane.exchange.map Exchange.endRelease } }
  | _ => sl

/-- The PLACED and DRAINING slots that a draft does not lay out, in ascending slot number (R51). -/
def State.losers (s : State) (draft : List Entry) : List SlotNo :=
  slotNumbers.filter fun k => (s.slot k).state.holdsWindow && (windowOf draft k).isNone

/-- The draft of the current inputs is installed as the Active Placement (R50), with its notices (R51). -/
def State.commit (s : State) (mark : CommitMark) : State :=
  let inputs := s.draftInputs
  let draft := inputs.draft
  let generation := nextGeneration s.pe.generation
  let pe := { s.pe with placement := draft, generation := generation, stamp := nextStamp s.pe.stamp }
  let slots := Vector.ofFn fun k : Fin 16 => (s.slot k).commit (windowOf draft k).isSome
  let s' := State.post { s with pe := pe, slots := slots }
    (.placementCommitted generation inputs.fittedCount inputs.unfitCount mark)
  (s.losers draft).foldl (fun s k => s.post (.placementPending k .noSpace)) s'

/-! ## Joins (R42 to R46) -/

/-- The entry is a hole of a kind for a class (R42). -/
def Entry.isHole (e : Entry) (kind : EntryKind) (code : Nat) : Bool := e.kind = kind && e.classCode == code

/-- The hole a joining slot of a class takes: the class's HELD_ANCHOR, then its lowest VACANCY, then its lowest
RESERVE; the list is in ascending base order (R42). -/
def findHole (placement : List Entry) (code : Nat) : Option Entry :=
  placement.find? (fun e => e.isHole .heldAnchor code)
    <|> placement.find? (fun e => e.isHole .vacancy code)
    <|> placement.find? (fun e => e.isHole .reserve code)

/-- The Active Placement after a hole has been converted in place into the WINDOW of a slot (R43). -/
def fillHole (placement : List Entry) (hole : Entry) (k : SlotNo) : List Entry :=
  placement.map fun e => if e = hole then { e with kind := .window k } else e

/-- Conditions 1 and 2 of R45 for one slot: it is fitted in the draft with the window base and event base of its
WINDOW in the Active Placement. -/
def sameWindow (placement draft : List Entry) (k : SlotNo) : Bool :=
  match windowOf draft k, windowOf placement k with
  | some d, some p => d.base == p.base && d.events.map EventRange.base == p.events.map EventRange.base
  | _, _ => false

/-- Condition 3 of R45 for one entry: if it is a HELD_ANCHOR or an anchored WINDOW, the draft holds an anchored entry
of the same class at the same base. -/
def keepsAnchor (draft : List Entry) (e : Entry) : Bool :=
  !(e.kind = .heldAnchor || (e.kind.isWindow && e.anchored))
    || draft.any fun d => d.anchored && d.classCode == e.classCode && d.base == e.base

/-- The draft of the current inputs is non-disruptive (R45). -/
def State.nonDisruptive (s : State) (draft : List Entry) : Bool :=
  (slotNumbers.all fun k => !(s.slot k).state.holdsWindow || sameWindow s.pe.placement draft k)
    && s.pe.placement.all (keepsAnchor draft)

/-- MODULE_JOINED for a slot, with its class code and join count (R43, R44). -/
def State.postJoined (s : State) (k : SlotNo) (outcome : JoinOutcome) : State :=
  s.post (.moduleJoined k (s.slot k).classCode (s.slot k).joinCount outcome)

/-- The slot waits for a commit (R44). -/
def State.awaitCommit (s : State) (k : SlotNo) : State :=
  (s.postJoined k .pending).post (.placementPending k .awaitingCommit)

/-- The join procedure for a slot whose identity is recorded: it enters the participating set as
PENDING(AWAITING_COMMIT), takes a hole of its class, or is treated as the Join Policy says (R42 to R46). -/
def State.join (s : State) (k : SlotNo) : State :=
  let s := (s.modSlot k fun sl => sl.enter (.pending .awaitingCommit)).bumpStamp
  match findHole s.pe.placement (s.slot k).classCode with
  | some hole =>
    let s := { s with pe := { s.pe with placement := fillHole s.pe.placement hole k } }
    (s.modSlot k fun sl => sl.enter .placed).postJoined k .placed
  | none =>
    match s.params.joinPolicy with
    | .fillOnly => s.awaitCommit k
    | .autoCommit =>
      let draft := s.draftInputs.draft
      if s.nonDisruptive draft ∧ (windowOf draft k).isSome then (s.commit .automatic).postJoined k .placed
      else s.awaitCommit k

/-! ## Translation (R53 to R55) -/

/-- The outcome of translating an access (R53, R54). -/
inductive Translation where
  | refused (status : Status)
  | fence (word : Word)
  | window (slot : SlotNo) (offset : Nat)
  deriving DecidableEq, Repr

/-- Translates an access: the checks of R53 in their order, and the fence word of a read of one word (R54). -/
def State.translate (s : State) (view address count : Nat) (kind : AccessKind) : Translation :=
  if view ≠ s.pe.generation then .refused .staleView
  else
    match entryAt s.pe.placement address with
    | none => .refused .unmapped
    | some e =>
      if e.base + e.size < address + count then .refused .spanError
      else
        match e.kind with
        | .fence => if kind = .write then .refused .fenceWrite else .fence (fenceWordOf s.pe.placement e.classCode)
        | .reserve => .refused .reserved
        | .vacancy => .refused .vacant
        | .heldAnchor => .refused .vacant
        | .window k =>
          match (s.slot k).state with
          | .draining _ => .refused .slotReleasing
          | _ => .window k (address - e.base)

/-- The global number of a local event of a slot, from the event base of its WINDOW (R55); none where the slot has no
WINDOW with an event range, which the checks before it exclude (R38, R99; log 16). -/
def State.translateEvent (s : State) (k : SlotNo) (index : Nat) : Option Nat :=
  ((windowOf s.pe.placement k).bind Entry.events).map fun r => r.base + index

end Sys2Proof.Machine
end

