-- ==== Sys2Proof/Machine/Slots.lean ====
section
/-! DEFINITION. Chapter 4: what a slot does with the outcomes of its lane. Probing, judging an identity, release, failure, presence. -/

namespace Sys2Proof.Machine

/-- Entry into FAILED: what the slot holds is ended, and SLOT_FAILED is posted (R77). -/
def State.enterFailed (s : State) (k : SlotNo) (reason : FailReason) : State :=
  let s := if reason = .laneFault then s.endTenure k .laneFault else s
  let s := s.modLane k Lane.abandon
  (s.leave k (.failed reason)).post (.slotFailed k reason)

/-- One more failed exchange: the consecutive-failure count is incremented and compared with Fault Threshold; a slot
that does not fail must resync (R92, R96). -/
def State.countFailure (s : State) (k : SlotNo) : State :=
  let s := s.modSlot k fun sl => { sl with failures := sl.failures + 1 }
  if (s.slot k).failures < s.params.faultThreshold then s.modLane k fun l => { l with resyncRequired := true }
  else s.enterFailed k .laneFault

/-- The judgement of a recorded identity: UNKNOWN_CLASS, FAILED(SPAN_MISMATCH), or a join (R64, R7). -/
def State.judge (s : State) (k : SlotNo) (id : Identity) : State :=
  match s.pe.lookup id.classCode with
  | none => s.modSlot k fun sl => sl.enter .unknownClass
  | some c => if c.span < id.eventCount then s.enterFailed k .spanMismatch else s.join k

/-- An IDENT judged as a new join: the identity is recorded, the join count incremented, the identity judged (R60,
R64). -/
def State.newJoin (s : State) (k : SlotNo) (id : Identity) : State :=
  (s.modSlot k fun sl => { sl with identity := some id, joinCount := nextJoinCount sl.joinCount }).judge k id

/-- The two identities name the same module: class code and declared event count (R79). -/
def Identity.same (a b : Identity) : Bool := a.classCode == b.classCode && a.eventCount == b.eventCount

/-- An IDENT that ends a resync PROBE: the identity is confirmed, or the old tenure ends and the new identity joins
(R79). -/
def State.resyncIdent (s : State) (k : SlotNo) (id : Identity) : State :=
  if ((s.slot k).identity.map (Identity.same id)).getD false then
    s.modSlot k fun sl => { sl with identity := some id }
  else
    let old := (s.slot k).classCode
    let s := (s.endTenure k .moduleGone).leave k .probing
    (s.post (.moduleLeft k old .identityChanged)).newJoin k id

/-- The end of a release: RELEASED, the window given up, RELEASE_DONE (R74). -/
def State.endRelease (s : State) (k : SlotNo) (outcome : ReleaseOutcome) : State :=
  (s.leave k .released).post (.releaseDone k outcome)

/-- Entry into PROBING: the failure count is 0, what is outstanding is abandoned, a FIRST PROBE begins (R63). -/
def State.enterProbing (s : State) (k : SlotNo) : State :=
  let s := s.modLane k Lane.abandon
  let s := s.leave k .probing
  let s := s.modSlot k fun sl => { sl with settle := none, failures := 0 }
  s.advance k

/-- A settle period begins: the slot is SETTLING for the Settle Time in force (R61, R62). -/
def Slot.beginSettling (sl : Slot) (settleTime : Nat) : Slot :=
  { sl.enter .settling with presence := true, settle := some settleTime }

/-- A slot loses its presence: the tenure ends as one event (R68). -/
def State.losePresence (s : State) (k : SlotNo) : State :=
  let code := (s.slot k).classCode
  let s := s.endTenure k .moduleGone
  let s := s.modLane k Lane.quiesce
  let s := s.leave k .empty
  let s := s.post (.moduleLeft k code .presenceLost)
  s.modSlot k fun sl => { sl with presence := false, settle := none, identity := none, failures := 0 }

end Sys2Proof.Machine
end

