-- ==== Sys2Proof/Machine/Exchanges.lean ====
section
/-! DEFINITION. Chapters 5 to 7 at the lane: judging answers, failing and cancelled exchanges, and module events. -/

namespace Sys2Proof.Machine

/-! ## Failing and cancelled exchanges -/

/-- Applies the end of a transaction to the entry that holds a tag, where one does. -/
def State.withTransaction (s : State) (tag : Byte) (f : State → Transaction → State) : State :=
  match s.transaction? tag with
  | some t => f s t
  | none => s

/-- A READ or WRITE fails: its transaction ends with the status given, and the failure is counted (R92, R116). -/
def State.failAccess (s : State) (k : SlotNo) (tag : Byte) (status : Status) : State :=
  (s.withTransaction tag fun s t => s.endWithout t status).countFailure k

/-- An exchange that is not cancelled fails, by expiry (LANE_TIMEOUT) or by an answer of the wrong kind
(PROTOCOL_ERROR): the effects of the table of R92, less the next exchange. -/
def State.failExchange (s : State) (k : SlotNo) (x : Exchange) (status : Status) : State :=
  let s := s.modLane k Lane.endUnmatched
  match x.kind with
  | .probe .first => s.enterFailed k .noIdent
  | .probe .resync => s.countFailure k
  | .read tag _ _ => s.failAccess k tag status
  | .write tag _ _ => s.failAccess k tag status
  | .halt =>
    if x.releaseEnded then s.modLane k fun l => { l with resyncRequired := true }
    else s.endRelease k .unconfirmed

/-- The transaction an exchange carries. -/
def ExchangeKind.tag? : ExchangeKind → Option Byte
  | .probe _ => none
  | .read tag _ _ => some tag
  | .write tag _ _ => some tag
  | .halt => none

/-- A cancelled exchange ends without a matching answer: the transaction is answered CANCELLED with UNKNOWN, the lane
must resync, and the failure count stays (R94, R123). -/
def State.endCancelledExchange (s : State) (k : SlotNo) (x : Exchange) : State :=
  let s := s.modLane k fun l => { l.endUnmatched with resyncRequired := true }
  match x.kind.tag? with
  | some tag => s.withTransaction tag fun s t => s.endCancelled t .unknown
  | none => s

/-- A cancelled exchange ends as on the expiry of its Reply Time, which counts as expired (R94; log 11, 19). -/
def State.expireCancelled (s : State) (k : SlotNo) (x : Exchange) : State :=
  State.endCancelledExchange
    (s.countLane k fun c => { c with expiredExchanges := bump c.expiredExchanges }) k x

/-! ## Answers (R89) -/

/-- The frame's kind matches the exchange: IDENT a PROBE; REFUSE or DATA of the count asked for a READ; DONE or REFUSE
a WRITE; DONE a HALT (R89, case 4). -/
def LaneFrame.matchesKind (f : LaneFrame) (kind : ExchangeKind) : Bool :=
  match kind, f.kind with
  | .probe _, .ident => true
  | .read _ _ _, .refuse => true
  | .read _ _ count, .data => f.count == count
  | .write _ _ _, .done => true
  | .write _ _ _, .refuse => true
  | .halt, .done => true
  | _, _ => false

/-- The module's refusal in an answer, with its reason (R115, R123). -/
def LaneFrame.refusal? (f : LaneFrame) : Option Byte := if f.kind = .refuse then some f.reason else none

/-- A transaction in exchange ends with the matching answer to its READ or WRITE (R115): the words of a DATA go into
its blocks, which pass to the reply; a DONE or a REFUSE returns them. -/
def State.completeTransaction (s : State) (t : Transaction) (f : LaneFrame) : State :=
  match f.refusal? with
  | some reason => s.endTransaction t .free .moduleRefused (.moduleRefused t.generation reason)
  | none =>
    match t.kind with
    | .read =>
      State.endTransaction { s with pool := s.pool.store t.blocks f.payload } t .reply .ok
        (.data t.generation t.count t.blocks)
    | .write => s.endWithout t .ok

/-- The matching answer to a READ or WRITE, cancelled or not (R115, R123). -/
def State.endAccess (s : State) (x : Exchange) (tag : Byte) (f : LaneFrame) : State :=
  s.withTransaction tag fun s t =>
    if x.cancelled then s.endCancelled t (.performed f.refusal?) else s.completeTransaction t f

/-- An exchange ends with a matching answer, which is handed on (the second table of R89). -/
def State.matchedAnswer (s : State) (k : SlotNo) (x : Exchange) (f : LaneFrame) : State :=
  let s := s.modSlot k fun sl => { sl with failures := 0, lane := sl.lane.endMatched x.kind }
  match x.kind with
  | .probe .first => s.newJoin k f.identity
  | .probe .resync => (s.modLane k fun l => { l with resyncRequired := false }).resyncIdent k f.identity
  | .read tag _ _ => s.endAccess x tag f
  | .write tag _ _ => s.endAccess x tag f
  | .halt =>
    if x.releaseEnded then s.modLane k fun l => { l with resyncRequired := true }
    else s.endRelease k .confirmed

/-- An answer of the right phase and the wrong kind ends the exchange (R89 case 5, R92). A cancelled exchange then ends as on
the expiry of its Reply Time with the same effects, the expired-exchange counter among them, as R94 says; the row of R103
reads otherwise (log 19). -/
def State.wrongAnswer (s : State) (k : SlotNo) (x : Exchange) : State :=
  let s := s.countLane k fun c => { c with protocolErrors := bump c.protocolErrors }
  if x.cancelled then s.expireCancelled k x else s.failExchange k x .protocolError

/-- A good answer-kind frame is judged against the outstanding exchange (R89). -/
def State.judgeAnswer (s : State) (k : SlotNo) (f : LaneFrame) : State :=
  let stale := s.countLane k fun c => { c with staleAnswers := bump c.staleAnswers }
  match (s.slot k).lane.exchange with
  | none => stale
  | some x =>
    if f.kind = .ident ∧ x.kind.isProbe = false then stale
    else if f.phase ≠ x.phase then stale
    else if f.matchesKind x.kind then s.matchedAnswer k x f
    else s.wrongAnswer k x

/-! ## Reply Time (R90) -/

/-- The Reply Time timer of an outstanding exchange expires (R90). A retry counts here, where it is decided, and stays counted
if it is never sent (log 20). -/
def State.replyExpired (s : State) (k : SlotNo) (x : Exchange) : State :=
  if x.cancelled then s.expireCancelled k x
  else if x.sends < 1 + s.params.retryLimit then
    s.modLane k fun l =>
      { l with
        exchange := some { x with sends := x.sends + 1, frameWaiting := true, timer := none }
        counters := { l.counters with retries := bump l.counters.retries } }
  else
    State.failExchange (s.countLane k fun c => { c with expiredExchanges := bump c.expiredExchanges }) k x .laneTimeout

/-! ## Module events (R97 to R100, R129) -/

/-- An event answer is decided; EVACK records the event's phase as the last accepted one (R97 to R100). -/
def Lane.decide (l : Lane) (accepted phase : Bool) : Lane :=
  { l with
    eventAnswer := some ⟨accepted, phase⟩
    lastEventPhase := if accepted then phase else l.lastEventPhase }

/-- The event is answered EVACK, counted by the counter given (R98, R99, R100). -/
def State.ackEvent (s : State) (k : SlotNo) (phase : Bool) (count : LaneCounters → LaneCounters) : State :=
  (s.modLane k fun l => l.decide true phase).countLane k count

/-- The event is answered EVWAIT (R97, R100). -/
def State.waitEvent (s : State) (k : SlotNo) (phase : Bool) : State :=
  (s.modLane k fun l => l.decide false phase).countLane k fun c => { c with waitedEvents := bump c.waitedEvents }

/-- The event is discarded without answer (R97). -/
def State.discardEvent (s : State) (k : SlotNo) : State :=
  s.countLane k fun c => { c with discardedEvents := bump c.discardedEvents }

/-- The event span of a slot's class (R11); 0 where the catalogue holds no such class, which the guards of R4 and R8
exclude for a PLACED or DRAINING slot (log 16). -/
def State.spanOf (s : State) (k : SlotNo) : Nat := ((s.pe.lookup (s.slot k).classCode).map ClassEntry.span).getD 0

/-- An event with a new phase: its local index, its translation, the Event Enable map, and the admission to the
Attention Queue, in this order (R99, R100, R129). -/
def State.newEvent (s : State) (k : SlotNo) (f : LaneFrame) : State :=
  let bad := s.ackEvent k f.phase fun c => { c with badEvents := bump c.badEvents }
  if s.spanOf k ≤ f.argument then bad
  else
    match s.translateEvent k f.argument with
    | none => bad
    | some number =>
      if flagOf s.au.enabled number = false then
        s.ackEvent k f.phase fun c => { c with disabledEvents := bump c.disabledEvents }
      else if s.au.admitsEvent then
        State.ackEvent
          { s with au := s.au.append (.event number k f.argument s.pe.generation f.payload) } k f.phase
          fun c => { c with acceptedEvents := bump c.acceptedEvents }
      else s.waitEvent k f.phase

/-- The slot and its lane discard events without answer: the first row of the table of R97. -/
def Slot.discardsEvents (sl : Slot) : Bool :=
  let stateDiscards := match sl.state with
    | .probing => true
    | .failed _ => true
    | .released => true
    | .draining haltSent => haltSent
    | _ => false
  stateDiscards || sl.lane.resyncRequired || (sl.lane.exchange.map fun x => x.kind.isProbe).getD false
    || sl.lane.eventAnswer.isSome

/-- A good EVENT is judged by the slot's state and the lane's condition, then by its phase (R97, R98). -/
def State.judgeEvent (s : State) (k : SlotNo) (f : LaneFrame) : State :=
  let sl := s.slot k
  if sl.discardsEvents then s.discardEvent k
  else
    match sl.state with
    | .pending _ => s.waitEvent k f.phase
    | .unknownClass => s.waitEvent k f.phase
    | _ =>
      if f.phase = sl.lane.lastEventPhase then
        s.ackEvent k f.phase fun c => { c with duplicateEvents := bump c.duplicateEvents }
      else s.newEvent k f

/-- A complete frame on the lane of a slot is judged (R84). -/
def State.judgeFrame (s : State) (k : SlotNo) (received : List Byte) : State :=
  if (s.slot k).state.unjudged then s.countUngood k
  else
    match parseLaneFrame received with
    | none => s.countUngood k
    | some f =>
      let s := s.countLane k fun c => { c with receivedFrames := bump c.receivedFrames }
      if f.kind = .event then s.judgeEvent k f else s.judgeAnswer k f

end Sys2Proof.Machine
end

