-- ==== Sys2Proof/Machine/Access.lean ====
section
/-! DEFINITION. The commands of the Transaction Unit (chapter 6): ACCESS_READ, ACCESS_WRITE, CANCEL_ACCESS. -/

namespace Sys2Proof.Machine

/-- The capacity checks of R110 in their order: the first refusal, if any. -/
def State.refuseAccess (s : State) (k : SlotNo) (count : Nat) : Option Status :=
  if (s.slot k).state ≠ .placed then some .slotState
  else if Config.transactionCapacity ≤ s.transactions.length then some .noTxn
  else if Config.laneCapacity ≤ (s.laneQueue k).length then some .laneBusy
  else if s.pool.freeBlocks.length < blocksFor count then some .noBuffer
  else none

/-- An accepted access: an entry, its blocks (the lowest-numbered free ones) with a write's words in them, a place at
the tail of the Lane Queue; then the exchange begins if the lane is idle (R106, R111, R113). -/
def State.accept (s : State) (tag : Byte) (kind : AccessKind) (k : SlotNo) (offset count : Nat)
    (data : List Word) : State :=
  let blocks := s.pool.freeBlocks.take (blocksFor count)
  let owned := s.pool.setOwner blocks (.transaction tag)
  State.advance
    { s with
      pool := if kind = .write then owned.store blocks data else owned
      transactions := s.transactions ++
        [{ tag := tag, kind := kind, slot := k, offset := offset, count := count, blocks := blocks,
           state := .waiting, generation := s.pe.generation }] } k

/-- An access whose own fields are in order: translated, then refused, answered from a fence word, or accepted (R109 to
R111). Every reply produced here carries the generation when the access was taken (R119). -/
def State.serveAccess (s : State) (r : HostRequest) (kind : AccessKind) (view address count : Nat)
    (data : List Word) : State :=
  match s.translate view address count kind with
  | .refused status => s.answer r status (.generation s.pe.generation)
  | .fence word => s.answer r .ok (.fenceWord s.pe.generation word)
  | .window k offset =>
    match s.refuseAccess k count with
    | some status => s.answer r status (.generation s.pe.generation)
    | none => s.accept r.tag kind k offset count data

/-- Access Read with the check of R108. -/
def State.serveRead (s : State) (r : HostRequest) (view address count : Nat) : State :=
  if count = 0 ∨ Config.maxLaneWords < count then s.answer r .badParam (.generation s.pe.generation)
  else s.serveAccess r .read view address count []

/-- Access Write with the two checks of R108. -/
def State.serveWrite (s : State) (r : HostRequest) (view address count : Nat) (data : List Word) : State :=
  if count = 0 ∨ Config.maxLaneWords < count then s.answer r .badParam (.generation s.pe.generation)
  else if data.length ≠ count then s.answer r .badFormat (.generation s.pe.generation)
  else s.serveAccess r .write view address count data

/-- ACCESS_READ (R108 to R111). -/
def execAccessRead (s : State) : Host.Outcome State Fault Refusal :=
  s.take fun r q s =>
    match q with
    | .accessRead view address count => some (s.serveRead r view address count)
    | _ => none

/-- ACCESS_WRITE (R108 to R111). -/
def execAccessWrite (s : State) : Host.Outcome State Fault Refusal :=
  s.take fun r q s =>
    match q with
    | .accessWrite view address count data => some (s.serveWrite r view address count data)
    | _ => none

/-! ## Cancel Access -/

/-- The cancelled mark, which a READ or WRITE has, is set (R85, R94, R122). -/
def Exchange.cancel (x : Exchange) : Exchange := { x with cancelled := x.cancelled || x.kind.tag?.isSome }

/-- The lane's exchange is marked cancelled (R94, R122). -/
def Lane.cancel (l : Lane) : Lane := { l with exchange := l.exchange.map Exchange.cancel }

/-- The exchange is a retry whose sending has not begun: once cancelled it ends at once (R94). -/
def Exchange.retryWaits (x : Exchange) : Bool := x.frameWaiting && decide (1 < x.sends)

/-- The Slot Controller's part of cancelling an exchange: the mark is set, and an exchange whose retry waits unsent
ends at once as on Reply Time expiry (R94). -/
def State.cancelExchange (s : State) (k : SlotNo) : State :=
  let s := s.modLane k Lane.cancel
  match (s.slot k).lane.exchange with
  | some x => if x.cancelled && x.retryWaits then (s.expireCancelled k x).advance k else s
  | none => s

/-- The effect and replies of Cancel Access. A WAITING target's reply precedes the Cancel's (R121); for a target in
exchange the Cancel's comes first, also where the exchange then ends at once (R122, R124; log 11). -/
def State.serveCancel (s : State) (r : HostRequest) (target : Byte) : State :=
  match s.transaction? target with
  | none => s.answer r .noSuchTag .none
  | some t =>
    match t.state with
    | .waiting => ((s.endCancelled t .notSent).answer r .ok (.foundState .waiting)).advance t.slot
    | .inExchange =>
      ((s.setTransactionState target .cancelling).answer r .ok (.foundState .inExchange)).cancelExchange t.slot
    | .cancelling => s.answer r .ok (.foundState .cancelling)

/-- CANCEL_ACCESS (R121, R122). -/
def execCancelAccess (s : State) : Host.Outcome State Fault Refusal :=
  s.take fun r q s =>
    match q with
    | .cancelAccess target => some (s.serveCancel r target)
    | _ => none

end Sys2Proof.Machine
end

