-- ==== Sys2Proof/Machine/PartWide.lean ====
section
/-! DEFINITION. The part-wide commands (chapter 9): POWER_ON_RESET, RESET_END, QUERY_PART, SET_PARAMETERS, READ_PARAMETERS, READ_COUNTERS, RESTART. -/

namespace Sys2Proof.Machine

/-! ## Power-on reset (R165) -/

/-- POWER_ON_RESET: every block returns to its power-on state, and the part takes nothing until the reset ends
(R165). The queue of commands is the surroundings' and stays. -/
def execPowerOnReset (s : State) : Host.Outcome State Fault Refusal := .next (State.powerOn s.pending)

/-- RESET_END: the straps are sampled, the slots whose presence lines are high begin a settle period of the power-on
Settle Time, and the part runs (R81, R142, R165). Outside a power-on reset nothing ends (log 3). -/
def execResetEnd (rate1 rate0 : Bool) (presence : BitVec 16) (s : State) : Host.Outcome State Fault Refusal :=
  if s.held then
    .next
      { s with
        held := false
        hli := { s.hli with rate1 := rate1, rate0 := rate0 }
        slots := Vector.ofFn fun k : Fin 16 =>
          if presence.getLsbD k.val then (s.slot k).beginSettling s.params.settleTime else s.slot k }
  else .next s

/-! ## Query Part and parameters -/

/-- QUERY_PART (R156). -/
def execQueryPart (s : State) : Host.Outcome State Fault Refusal :=
  s.take fun r q s =>
    match q with
    | .queryPart =>
      some (s.answer r .ok (.part
        { generation := s.pe.generation, stamp := s.pe.stamp, joinPolicy := s.params.joinPolicy,
          freeBlocks := s.pool.freeBlocks.length, transactionsInUse := s.transactions.length }))
    | _ => none

/-- The eight values replace those in force as one step; a different Run Base increments the draft stamp (R16,
R158). -/
def State.setParams (s : State) (p : Params) : State :=
  let changed := decide (p.runBase ≠ s.params.runBase)
  let s := { s with params := p }
  if changed then s.bumpStamp else s

/-- SET_PARAMETERS (R158). -/
def execSetParameters (s : State) : Host.Outcome State Fault Refusal :=
  s.take fun r q s =>
    match q with
    | .setParameters f =>
      match f.check with
      | some p => let s := s.setParams p; some (s.answer r .ok (.stamp s.pe.stamp))
      | none => some (s.answer r .badParam .none)
    | _ => none

/-- READ_PARAMETERS (R160). -/
def execReadParameters (s : State) : Host.Outcome State Fault Refusal :=
  s.take fun r q s =>
    match q with
    | .readParameters => some (s.answer r .ok (.params s.params))
    | _ => none

/-! ## Counters (R161) -/

/-- The effect and reply of Read Counters (R161). -/
def State.serveReadCounters (s : State) (r : HostRequest) (selector lane clear : Nat) : State :=
  if 1 < clear then s.answer r .badParam .none
  else if selector = 0 then
    let report := s.hli.counters
    let s := if clear = 1 then { s with hli := { s.hli with counters := {} } } else s
    s.answer r .ok (.linkCounters report)
  else if selector = 1 then
    match slotNo? lane with
    | some k =>
      let report := (s.slot k).lane.counters
      let s := if clear = 1 then s.countLane k fun _ => {} else s
      s.answer r .ok (.laneCounters k report)
    | none => s.answer r .badParam .none
  else s.answer r .badParam .none

/-- READ_COUNTERS (R161). -/
def execReadCounters (s : State) : Host.Outcome State Fault Refusal :=
  s.take fun r q s =>
    match q with
    | .readCounters selector lane clear => some (s.serveReadCounters r selector lane clear)
    | _ => none

/-! ## Restart (R162) -/

/-- The Restart's part of one Slot Controller (R82, R85, R103). -/
def Slot.restart (sl : Slot) (settleTime : Nat) : Slot :=
  { sl with
    state := if sl.presence then .settling else .empty
    settle := if sl.presence then some settleTime else none
    identity := if sl.presence then sl.identity else none
    failures := 0
    lane := { sl.lane.quiesce with counters := {} } }

/-- The notice being sent has left the queue: its completion changes no notice (R132, R152). -/
def State.forgetNotice (s : State) (gone : Nat → Bool) : State :=
  { s with
    hli := { s.hli with
      sending := s.hli.sending.map fun f =>
        match f.source with
        | .notice q => if gone q then { f with source := .noticeRemoved } else f
        | _ => f } }

/-- The Restart's part of the Attention Unit: the queue, Summary Due and the lost-notice count go; the numbering and
the Event Enable map stay (R141). -/
def AttentionUnit.restart (au : AttentionUnit) : AttentionUnit :=
  { au with queue := [], summaryDue := false, lostCount := 0 }

/-- The effects of an accepted Restart before its reply (R162, parts 1 to 8). -/
def State.restart (s : State) (scope : RestartScope) : State :=
  let s := slotNumbers.foldl (fun s k => s.abortQueue k) s
  let s := s.forgetNotice fun _ => true
  { s with
    pe :=
      { catalogue := if scope = .full then [] else s.pe.catalogue
        placement := []
        generation := nextGeneration s.pe.generation
        stamp := nextStamp s.pe.stamp }
    slots := Vector.ofFn fun k : Fin 16 => (s.slot k).restart s.params.settleTime
    au := s.au.restart
    hli := { s.hli with counters := {} } }

/-- The effects of an accepted Restart with its reply (R162, R163). -/
def State.serveRestart (s : State) (r : HostRequest) (scope : RestartScope) : State :=
  let aborted := s.transactions.length
  let s := s.restart scope
  s.answer r .ok (.restart scope s.pe.generation s.pe.stamp aborted s.au.nextSeq)

/-- RESTART (R162, R163). -/
def execRestart (s : State) : Host.Outcome State Fault Refusal :=
  s.take fun r q s =>
    match q with
    | .restart scope =>
      if scope = 0 then some (s.serveRestart r .keepCatalogue)
      else if scope = 1 then some (s.serveRestart r .full)
      else some (s.answer r .badParam .none)
    | _ => none

end Sys2Proof.Machine
end

