-- ==== Sys2Proof/Machine/Attention.lean ====
section
/-! DEFINITION. The commands of the Attention Unit (chapter 7): ACKNOWLEDGE_NOTICES, RESEND_NOTICES, SET_EVENT_ENABLE. -/

namespace Sys2Proof.Machine

/-- The refusal of a sequence number that is not queued (R134, R136). -/
def State.refuseSeq (s : State) (r : HostRequest) : State :=
  s.answer r .badSeq (.badSeq s.au.oldestSeq s.au.queue.length)

/-- The effect and reply of Acknowledge Notices (R131, R134). -/
def State.serveAcknowledge (s : State) (r : HostRequest) (q : Nat) : State :=
  match s.au.position? q with
  | none => s.refuseSeq r
  | some p =>
    let removed := s.au.queue.take (p + 1)
    let s := { s with au := s.au.acknowledge p }
    let s := s.forgetNotice fun x => removed.any fun n => n.seq == x
    s.answer r .ok (.acknowledged (p + 1) s.au.queue.length)

/-- ACKNOWLEDGE_NOTICES (R134). -/
def execAcknowledgeNotices (s : State) : Host.Outcome State Fault Refusal :=
  s.take fun r q s =>
    match q with
    | .acknowledgeNotices n => some (s.serveAcknowledge r n)
    | _ => none

/-- The effect and reply of Resend Notices (R136). -/
def State.serveResend (s : State) (r : HostRequest) (q : Nat) : State :=
  match s.au.position? q with
  | none => s.refuseSeq r
  | some p =>
    let made := ((s.au.queue.drop p).filter fun n => n.delivery = .sent).length
    State.answer { s with au := s.au.resend p } r .ok (.madeNew made)

/-- RESEND_NOTICES (R136). -/
def execResendNotices (s : State) : Host.Outcome State Fault Refusal :=
  s.take fun r q s =>
    match q with
    | .resendNotices n => some (s.serveResend r n)
    | _ => none

/-- The effect and reply of Set Event Enable (R139). -/
def State.serveEventEnable (s : State) (r : HostRequest) (first count setting : Nat) : State :=
  if count = 0 ∨ Config.eventSpace < first + count ∨ 1 < setting then s.answer r .badParam .none
  else
    State.answer { s with au := { s.au with enabled := setFlags s.au.enabled first count (decide (setting = 1)) } } r
      .ok .none

/-- SET_EVENT_ENABLE (R139). -/
def execSetEventEnable (s : State) : Host.Outcome State Fault Refusal :=
  s.take fun r q s =>
    match q with
    | .setEventEnable first count setting => some (s.serveEventEnable r first count setting)
    | _ => none

end Sys2Proof.Machine
end

