-- ==== Sys2Proof/Machine/Catalogue.lean ====
section
/-! DEFINITION. The commands of the Class Catalogue (chapter 1): DEFINE_CLASS, DROP_CLASS, READ_CLASS. -/

namespace Sys2Proof.Machine

/-- A PENDING, PLACED or DRAINING slot carries the class code (R4, R8). -/
def State.classInUse (s : State) (code : Nat) : Bool := s.members.any fun m => m.code == code

/-- The new anchor region overlaps that of an entry with a different class code (R4, check 4). -/
def anchorConflict (catalogue : List ClassEntry) (c : ClassEntry) : Bool :=
  match c.region? with
  | none => false
  | some region =>
    (withoutClass catalogue c.code).any fun d => (d.region?.map (Region.overlaps region)).getD false

/-- Checks 2 to 5 of R4 in their order: the first refusal, if any. -/
def State.refuseDefine (s : State) (c : ClassEntry) : Option Status :=
  if s.pe.catalogue.any fun d => d.rank == c.rank && !(d.code == c.code) then some .rankTaken
  else if (s.pe.lookup c.code).isNone ∧ Config.catalogueCapacity ≤ s.pe.catalogue.length then some .catalogueFull
  else if anchorConflict s.pe.catalogue c then some .anchorConflict
  else if (s.pe.lookup c.code).isSome ∧ s.classInUse c.code then some .classInUse
  else none

/-- The slots in UNKNOWN_CLASS whose last IDENT carried a class code, in ascending order (R7). -/
def State.waitingFor (s : State) (code : Nat) : List SlotNo :=
  slotNumbers.filter fun k => (s.slot k).state = .unknownClass && (s.slot k).identity.map Identity.classCode = some code

/-- Re-judges one slot on its recorded identity; the join count stays (R7). -/
def State.rejudge (s : State) (k : SlotNo) : State :=
  match (s.slot k).identity with
  | some id => s.judge k id
  | none => s

/-- A class with a new code is added, and the slots that wait for it are re-judged one after another (R5, R7). -/
def State.addClass (s : State) (c : ClassEntry) : State :=
  let s := State.bumpStamp { s with pe := { s.pe with catalogue := insertByRank c s.pe.catalogue } }
  (s.waitingFor c.code).foldl State.rejudge s

/-- A class is redefined: its unused entries leave the Active Placement and its catalogue entry is replaced (R6). -/
def State.redefineClass (s : State) (c : ClassEntry) : State :=
  State.bumpStamp
    { s with
      pe := { s.pe with
        placement := withoutUnused s.pe.placement c.code
        catalogue := insertByRank c (withoutClass s.pe.catalogue c.code) } }

/-- The effect and reply of a Define Class that has passed check 1 (R4 to R7). -/
def State.serveDefine (s : State) (r : HostRequest) (c : ClassEntry) : State :=
  match s.refuseDefine c with
  | some status => s.answer r status .none
  | none =>
    if (s.pe.lookup c.code).isSome then
      let s := s.redefineClass c
      s.answer r .ok (.defined .redefined 0 s.pe.stamp)
    else
      let rejudged := (s.waitingFor c.code).length
      let s := s.addClass c
      s.answer r .ok (.defined .created rejudged s.pe.stamp)

/-- DEFINE_CLASS (R4 to R7). -/
def execDefineClass (s : State) : Host.Outcome State Fault Refusal :=
  s.take fun r q s =>
    match q with
    | .defineClass f =>
      match f.check with
      | some c => some (s.serveDefine r c)
      | none => some (s.answer r .badParam .none)
    | _ => none

/-- The class and its unused entries are removed (R9). -/
def State.dropClass (s : State) (code : Nat) : State :=
  State.bumpStamp
    { s with
      pe := { s.pe with
        placement := withoutUnused s.pe.placement code
        catalogue := withoutClass s.pe.catalogue code } }

/-- The effect and reply of Drop Class (R8, R9). -/
def State.serveDrop (s : State) (r : HostRequest) (code : Nat) : State :=
  if code = 0 ∨ 0xFFFF ≤ code then s.answer r .badParam .none
  else if (s.pe.lookup code).isNone then s.answer r .noClass .none
  else if s.classInUse code then s.answer r .classInUse .none
  else
    let s := s.dropClass code
    s.answer r .ok (.stamp s.pe.stamp)

/-- DROP_CLASS (R8, R9). -/
def execDropClass (s : State) : Host.Outcome State Fault Refusal :=
  s.take fun r q s =>
    match q with
    | .dropClass code => some (s.serveDrop r code)
    | _ => none

/-- The reply of Read Class (R10). -/
def State.serveReadClass (s : State) (r : HostRequest) (rank : Nat) : State :=
  if 31 < rank then s.answer r .badParam .none
  else
    match s.pe.atRank rank with
    | some c => s.answer r .ok (.classEntry c)
    | none => s.answer r .noClass .none

/-- READ_CLASS (R10). -/
def execReadClass (s : State) : Host.Outcome State Fault Refusal :=
  s.take fun r q s =>
    match q with
    | .readClass rank => some (s.serveReadClass r rank)
    | _ => none

end Sys2Proof.Machine
end

