-- ==== Sys2Proof/Machine/HostLink.lean ====
section
/-! DEFINITION. The commands of the Host Link (chapter 8): HOST_BYTE_RECEIVED, GAP_TIMER_EXPIRY, HOST_FRAME_SENT, UNKNOWN_REQUEST. -/

namespace Sys2Proof.Machine

/-! ## Bit rate -/

/-- The bit rate the straps sampled at the end of the reset give (R142). -/
def HostLink.bitRate (h : HostLink) : Nat :=
  match h.rate1, h.rate0 with
  | false, false => 115200
  | false, true => 460800
  | true, false => 921600
  | true, true => 3000000

/-! ## The receiver -/

/-- What one byte does to the Host Link receiver. -/
inductive HostDelimited where
  | stage (r : Receiver)
  | badLength
  | complete (len : Nat) (body check : List Byte)
  deriving DecidableEq, Repr

/-- The receiver takes one byte: the table of R144. `gap` is the Frame Gap Time in force, which a frame keeps from its
sync byte (R145, R159; log 18). -/
def Receiver.take (r : Receiver) (gap : Nat) (b : Byte) : HostDelimited :=
  match r with
  | .hunting => .stage (if b = Config.hostSync then .awaitingLength gap else .hunting)
  | .awaitingLength g =>
    if 3 ≤ b.toNat ∧ b.toNat ≤ 248 then .stage (.body g b.toNat []) else .badLength
  | .body g len received =>
    let received := received ++ [b]
    .stage (if received.length < len then .body g len received else .check g len received [])
  | .check g len content received =>
    let received := received ++ [b]
    if received.length < 2 then .stage (.check g len content received) else .complete len content received

/-- The receiver is inside a frame: the gap timer runs (R145). -/
def Receiver.inFrame : Receiver → Bool
  | .hunting => false
  | .awaitingLength _ => true
  | .body _ _ _ => true
  | .check _ _ _ _ => true

def State.setReceiver (s : State) (r : Receiver) : State := { s with hli := { s.hli with receiver := r } }

/-- Counts on the link counters (R154). -/
def State.countLink (s : State) (f : LinkCounters → LinkCounters) : State :=
  { s with hli := { s.hli with counters := f s.hli.counters } }

/-- A refusal enters the empty refusal slot, or is dropped and counted (R148). -/
def State.refuse (s : State) (r : HostRequest) (status : Status) : State :=
  match s.hli.refusal with
  | none => { s with hli := { s.hli with refusal := some ⟨replyCode r.code, r.tag, status⟩ } }
  | some _ => s.countLink fun c => { c with refusalsDropped := bump c.refusalsDropped }

/-- A good frame is judged at arrival: tag in use, queue full, or appended (R147). -/
def State.arrive (s : State) (r : HostRequest) : State :=
  if s.tagInUse r.tag then s.refuse r .tagInUse
  else if Config.requestCapacity ≤ s.hli.requests.length then s.refuse r .queueFull
  else { s with hli := { s.hli with requests := s.hli.requests ++ [r] } }

/-- The request a body carries: code, tag and the bytes after them (R167). -/
def requestOf (body : List Byte) : HostRequest := ⟨body.getD 0 0, body.getD 1 0, body.drop 2⟩

/-- A complete frame is judged by its check (R146). -/
def State.judgeHostFrame (s : State) (len : Nat) (body check : List Byte) : State :=
  let s := s.setReceiver .hunting
  if check = checkBytes (byteOf len :: body) then
    (s.countLink fun c => { c with goodFrames := bump c.goodFrames }).arrive (requestOf body)
  else s.countLink fun c => { c with badCheck := bump c.badCheck }

def State.takeHostByte (s : State) (b : Byte) : State :=
  match s.hli.receiver.take s.params.frameGapTime b with
  | .stage r => s.setReceiver r
  | .badLength => (s.setReceiver .hunting).countLink fun c => { c with badLength := bump c.badLength }
  | .complete len body check => s.judgeHostFrame len body check

/-- HOST_BYTE_RECEIVED: the data bits are taken, whatever the stop bit (R142, R144 to R148). -/
def execHostByteReceived (line : LineByte) (s : State) : Host.Outcome State Fault Refusal :=
  s.event fun s => (takeLine? line).map s.takeHostByte

/-- GAP_TIMER_EXPIRY: a frame in progress is abandoned and counted (R145). In HUNTING no gap timer runs (log 3). -/
def execGapTimerExpiry (s : State) : Host.Outcome State Fault Refusal :=
  s.event fun s =>
    if s.hli.receiver.inFrame then
      some ((s.setReceiver .hunting).countLink fun c => { c with gapAbandon := bump c.gapAbandon })
    else none

/-! ## The transmitter -/

/-- The blocks a reply holds (R120). -/
def Reply.blocks (r : Reply) : List BlockNo :=
  match r.fields with
  | .data _ _ blocks => blocks
  | _ => []

/-- The oldest reply leaves the Reply Queue and returns its blocks (R120, R152). -/
def State.replySent (s : State) : State :=
  match s.hli.replies with
  | [] => s
  | r :: rest => { s with hli := { s.hli with replies := rest }, pool := s.pool.setOwner r.blocks .free }

def State.countSinceNotice (s : State) : State :=
  { s with hli := { s.hli with sinceNotice := bumpSinceNotice s.hli.sinceNotice } }

/-- The last byte of a frame has been sent: its source is updated (the table of R152). -/
def State.hostFrameSent (s : State) (source : FrameSource) : State :=
  let s := { s with hli := { s.hli with sending := none } }
  match source with
  | .refusal => State.countSinceNotice { s with hli := { s.hli with refusal := none } }
  | .reply => s.replySent.countSinceNotice
  | .notice q => { s with au := { s.au with queue := markSent q s.au.queue }, hli := { s.hli with sinceNotice := 0 } }
  | .noticeRemoved => { s with hli := { s.hli with sinceNotice := 0 } }

/-- HOST_FRAME_SENT (R152). An idle transmitter completes no frame (log 3). -/
def execHostFrameSent (s : State) : Host.Outcome State Fault Refusal :=
  s.event fun s => s.hli.sending.map fun f => s.hostFrameSent f.source

/-! ## Requests that no block takes -/

/-- UNKNOWN_REQUEST: the head is answered UNKNOWN_REQUEST or BAD_FORMAT (R150). -/
def execUnknownRequest (s : State) : Host.Outcome State Fault Refusal :=
  s.take fun r q s =>
    match q with
    | .unknown => some (s.answer r .unknownRequest .none)
    | .badFormat => some (s.answer r .badFormat .none)
    | _ => none

end Sys2Proof.Machine
end

