-- ==== Sys2Proof/Machine/Layout.lean ====
section
/-! DEFINITION. The commands of the layout (chapters 2 and 3): READ_PLACEMENT, READ_DRAFT, COMMIT_PLACEMENT. -/

namespace Sys2Proof.Machine

/-- The reply of Read Placement (R57). -/
def State.serveReadPlacement (s : State) (r : HostRequest) (start : Nat) : State :=
  if Config.maxStartIndex < start then s.answer r .badParam .none
  else
    s.answer r .ok (.placementPage s.pe.generation s.pe.stamp s.pe.placement.length start
      (pageOf s.pe.placement start))

/-- READ_PLACEMENT (R57). -/
def execReadPlacement (s : State) : Host.Outcome State Fault Refusal :=
  s.take fun r q s =>
    match q with
    | .readPlacement start => some (s.serveReadPlacement r start)
    | _ => none

/-- The reply of Read Draft (R33). -/
def State.serveReadDraft (s : State) (r : HostRequest) (start : Nat) : State :=
  if Config.maxStartIndex < start then s.answer r .badParam .none
  else
    let inputs := s.draftInputs
    let draft := inputs.draft
    s.answer r .ok (.draftPage s.pe.stamp inputs.fittedCount inputs.unfitCount draft.length start
      (pageOf draft start))

/-- READ_DRAFT (R33). -/
def execReadDraft (s : State) : Host.Outcome State Fault Refusal :=
  s.take fun r q s =>
    match q with
    | .readDraft start => some (s.serveReadDraft r start)
    | _ => none

/-- The effect and reply of Commit Placement (R50). -/
def State.serveCommit (s : State) (r : HostRequest) (stamp : Nat) : State :=
  if stamp = s.pe.stamp then
    let inputs := s.draftInputs
    let s := s.commit .requested
    s.answer r .ok (.committed s.pe.generation s.pe.stamp inputs.fittedCount inputs.unfitCount)
  else s.answer r .draftChanged (.stamp s.pe.stamp)

/-- COMMIT_PLACEMENT (R50, R51, R174). -/
def execCommitPlacement (s : State) : Host.Outcome State Fault Refusal :=
  s.take fun r q s =>
    match q with
    | .commitPlacement stamp => some (s.serveCommit r stamp)
    | _ => none

end Sys2Proof.Machine
end

