-- ==== Sys2Proof/Machine/SlotCommands.lean ====
section
/-! DEFINITION. The commands of the slots and their lanes (chapters 4 and 5): READ_SLOT, RESET_SLOT, RELEASE_SLOT, PRESENCE_RISE, PRESENCE_LOSS, SETTLE_PERIOD_EXPIRY, LANE_BYTE_RECEIVED, LANE_SILENCE_TIMEOUT, REPLY_TIME_EXPIRY, LANE_FRAME_SENT. -/

namespace Sys2Proof.Machine

/-! ## Requests that address a slot -/

/-- The fields of Read Slot, all taken together (R80). -/
def State.slotReport (s : State) (k : SlotNo) : SlotReport where
  slot := k
  state := (s.slot k).state
  identity := (s.slot k).identity
  joinCount := (s.slot k).joinCount
  failures := (s.slot k).failures
  transactionsHeld := (s.laneQueue k).length
  generation := s.pe.generation
  window := windowOf s.pe.placement k

/-- The reply of Read Slot (R80). -/
def State.serveReadSlot (s : State) (r : HostRequest) (slot : Nat) : State :=
  match slotNo? slot with
  | none => s.answer r .badParam .none
  | some k => s.answer r .ok (.slotRecord (s.slotReport k))

/-- READ_SLOT (R80). -/
def execReadSlot (s : State) : Host.Outcome State Fault Refusal :=
  s.take fun r q s =>
    match q with
    | .readSlot slot => some (s.serveReadSlot r slot)
    | _ => none

/-- The effect and reply of Reset Slot: the transactions' replies precede its own (R70, R71, R117). -/
def State.serveResetSlot (s : State) (r : HostRequest) (slot : Nat) : State :=
  match slotNo? slot with
  | none => s.answer r .badParam .none
  | some k =>
    let old := (s.slot k).state
    if old.unjudged then s.answer r .slotState .none
    else ((s.endTenure k .slotReset).enterProbing k).answer r .ok (.slotState old)

/-- RESET_SLOT (R70, R71). -/
def execResetSlot (s : State) : Host.Outcome State Fault Refusal :=
  s.take fun r q s =>
    match q with
    | .resetSlot slot => some (s.serveResetSlot r slot)
    | _ => none

/-- The effect and reply of Release Slot; HALT begins at once where its conditions hold (R72, R73). -/
def State.serveReleaseSlot (s : State) (r : HostRequest) (slot : Nat) : State :=
  match slotNo? slot with
  | none => s.answer r .badParam .none
  | some k =>
    if (s.slot k).state = .placed then
      ((s.modSlot k fun sl => sl.enter (.draining false)).answer r .ok .none).advance k
    else s.answer r .slotState .none

/-- RELEASE_SLOT (R72, R73). -/
def execReleaseSlot (s : State) : Host.Outcome State Fault Refusal :=
  s.take fun r q s =>
    match q with
    | .releaseSlot slot => some (s.serveReleaseSlot r slot)
    | _ => none

/-! ## Presence and settling -/

/-- PRESENCE_RISE: taken only in EMPTY; the slot enters SETTLING and a settle period begins (R61; log 3). -/
def execPresenceRise (slot : Nat) (s : State) : Host.Outcome State Fault Refusal :=
  s.slotEvent slot fun k s =>
    if (s.slot k).state = .empty then some (s.modSlot k fun sl => sl.beginSettling s.params.settleTime) else none

/-- PRESENCE_LOSS: taken in every state but EMPTY (R68; log 3). -/
def execPresenceLoss (slot : Nat) (s : State) : Host.Outcome State Fault Refusal :=
  s.slotEvent slot fun k s => if (s.slot k).state = .empty then none else some (s.losePresence k)

/-- SETTLE_PERIOD_EXPIRY: a SETTLING slot enters PROBING (R62, R63; log 3). -/
def execSettlePeriodExpiry (slot : Nat) (s : State) : Host.Outcome State Fault Refusal :=
  s.slotEvent slot fun k s => if (s.slot k).state = .settling then some (s.enterProbing k) else none

/-! ## The lane -/

/-- One byte on a lane: it is discarded, joins the frame, or ends it; a complete frame is judged, and the lane goes on
as R87 states (R84, R172). -/
def State.takeLaneByte (s : State) (k : SlotNo) (b : Byte) : State :=
  match (s.slot k).lane.receiver.take b with
  | .discarded => s
  | .more received => s.setLaneReceiver k (.inside received)
  | .tooLong => (s.setLaneReceiver k .between).countUngood k
  | .complete received => ((s.setLaneReceiver k .between).judgeFrame k received).advance k

/-- LANE_BYTE_RECEIVED: the data bits are taken, whatever the stop bit (R84, R89, R97, R172; log 1). -/
def execLaneByteReceived (slot : Nat) (line : LineByte) (s : State) : Host.Outcome State Fault Refusal :=
  s.slotEvent slot fun k s => (takeLine? line).map (s.takeLaneByte k)

/-- LANE_SILENCE_TIMEOUT: a frame in progress ends as bad, or as ignored (R172). Between frames no silence timer runs
(log 3). -/
def execLaneSilenceTimeout (slot : Nat) (s : State) : Host.Outcome State Fault Refusal :=
  s.slotEvent slot fun k s =>
    match (s.slot k).lane.receiver with
    | .between => none
    | .inside _ => some ((s.setLaneReceiver k .between).countUngood k)

/-- REPLY_TIME_EXPIRY: taken while the Reply Time timer of an exchange runs (R90; log 3). -/
def execReplyTimeExpiry (slot : Nat) (s : State) : Host.Outcome State Fault Refusal :=
  s.slotEvent slot fun k s =>
    match (s.slot k).lane.exchange with
    | some x => if x.timer.isSome then some ((s.replyExpired k x).advance k) else none
    | none => none

/-- LANE_FRAME_SENT: the lane transmitter finishes its frame and takes the next one that waits (R86; log 3). -/
def execLaneFrameSent (slot : Nat) (s : State) : Host.Outcome State Fault Refusal :=
  s.slotEvent slot fun k s =>
    (s.slot k).lane.sending.map fun f => (s.modLane k fun l => l.frameSent f).laneTransmit k

end Sys2Proof.Machine
end

