-- ==== Sys2Proof/Machine/Dispatch.lean ====
section
/-! DEFINITION. The meaning of each command: one arm per row of spec/opcode_table.json. -/

namespace Sys2Proof.Machine

def exec (i : Instr) (s : State) : Host.Outcome State Fault Refusal :=
  match i with
  | .powerOnReset => Sys2Proof.Machine.execPowerOnReset s
  | .hostByteReceived line => Sys2Proof.Machine.execHostByteReceived line s
  | .gapTimerExpiry => Sys2Proof.Machine.execGapTimerExpiry s
  | .hostFrameSent => Sys2Proof.Machine.execHostFrameSent s
  | .unknownRequest => Sys2Proof.Machine.execUnknownRequest s
  | .queryPart => Sys2Proof.Machine.execQueryPart s
  | .setParameters => Sys2Proof.Machine.execSetParameters s
  | .readParameters => Sys2Proof.Machine.execReadParameters s
  | .restart => Sys2Proof.Machine.execRestart s
  | .defineClass => Sys2Proof.Machine.execDefineClass s
  | .dropClass => Sys2Proof.Machine.execDropClass s
  | .readClass => Sys2Proof.Machine.execReadClass s
  | .readPlacement => Sys2Proof.Machine.execReadPlacement s
  | .readDraft => Sys2Proof.Machine.execReadDraft s
  | .commitPlacement => Sys2Proof.Machine.execCommitPlacement s
  | .readSlot => Sys2Proof.Machine.execReadSlot s
  | .resetSlot => Sys2Proof.Machine.execResetSlot s
  | .releaseSlot => Sys2Proof.Machine.execReleaseSlot s
  | .accessRead => Sys2Proof.Machine.execAccessRead s
  | .accessWrite => Sys2Proof.Machine.execAccessWrite s
  | .cancelAccess => Sys2Proof.Machine.execCancelAccess s
  | .acknowledgeNotices => Sys2Proof.Machine.execAcknowledgeNotices s
  | .resendNotices => Sys2Proof.Machine.execResendNotices s
  | .setEventEnable => Sys2Proof.Machine.execSetEventEnable s
  | .readCounters => Sys2Proof.Machine.execReadCounters s
  | .presenceRise k => Sys2Proof.Machine.execPresenceRise k s
  | .presenceLoss k => Sys2Proof.Machine.execPresenceLoss k s
  | .settlePeriodExpiry k => Sys2Proof.Machine.execSettlePeriodExpiry k s
  | .laneByteReceived k line => Sys2Proof.Machine.execLaneByteReceived k line s
  | .laneSilenceTimeout k => Sys2Proof.Machine.execLaneSilenceTimeout k s
  | .replyTimeExpiry k => Sys2Proof.Machine.execReplyTimeExpiry k s
  | .laneFrameSent k => Sys2Proof.Machine.execLaneFrameSent k s
  | .resetEnd rate1 rate0 presence => Sys2Proof.Machine.execResetEnd rate1 rate0 presence s

end Sys2Proof.Machine
end

