-- ==== Sys2Proof/WellFormed.lean ====
section
/-! DEFINITION. Which commands the part's pins can carry. -/

namespace Sys2Proof

/-- The slot number a command names, where it names one. -/
def Instr.slot? : Instr → Option Nat
  | .powerOnReset => none
  | .hostByteReceived _ => none
  | .gapTimerExpiry => none
  | .hostFrameSent => none
  | .unknownRequest => none
  | .queryPart => none
  | .setParameters => none
  | .readParameters => none
  | .restart => none
  | .defineClass => none
  | .dropClass => none
  | .readClass => none
  | .readPlacement => none
  | .readDraft => none
  | .commitPlacement => none
  | .readSlot => none
  | .resetSlot => none
  | .releaseSlot => none
  | .accessRead => none
  | .accessWrite => none
  | .cancelAccess => none
  | .acknowledgeNotices => none
  | .resendNotices => none
  | .setEventEnable => none
  | .readCounters => none
  | .presenceRise k => some k
  | .presenceLoss k => some k
  | .settlePeriodExpiry k => some k
  | .laneByteReceived k _ => some k
  | .laneSilenceTimeout k => some k
  | .replyTimeExpiry k => some k
  | .laneFrameSent k => some k
  | .resetEnd _ _ _ => none

/-- The byte on a serial line that a command brings, where it brings one. -/
def Instr.line? : Instr → Option LineByte
  | .powerOnReset => none
  | .hostByteReceived line => some line
  | .gapTimerExpiry => none
  | .hostFrameSent => none
  | .unknownRequest => none
  | .queryPart => none
  | .setParameters => none
  | .readParameters => none
  | .restart => none
  | .defineClass => none
  | .dropClass => none
  | .readClass => none
  | .readPlacement => none
  | .readDraft => none
  | .commitPlacement => none
  | .readSlot => none
  | .resetSlot => none
  | .releaseSlot => none
  | .accessRead => none
  | .accessWrite => none
  | .cancelAccess => none
  | .acknowledgeNotices => none
  | .resendNotices => none
  | .setEventEnable => none
  | .readCounters => none
  | .presenceRise _ => none
  | .presenceLoss _ => none
  | .settlePeriodExpiry _ => none
  | .laneByteReceived _ line => some line
  | .laneSilenceTimeout _ => none
  | .replyTimeExpiry _ => none
  | .laneFrameSent _ => none
  | .resetEnd _ _ _ => none

/-- A command that names a slot names one of the sixteen, 0 to 15 (R59), and a byte on a serial line begins with its start
bit, which is low (R142). -/
def Instr.WellFormed (i : Instr) : Bool :=
  (match i.slot? with
    | some k => decide (k < Config.slotCount)
    | none => true) &&
  (match i.line? with
    | some line => !line.start
    | none => true)

end Sys2Proof
end

