-- ==== Sys2Proof/Safety.lean ====
section
/-! DEFINITION. What holds of the part in every state it reaches, one predicate for each block and each relation between blocks, in the terms the statements use. -/

namespace Sys2Proof.Machine

/-! ## Numbers and parameters -/

/-- Every parameter lies in its range (R157). -/
structure Params.InRange (p : Params) : Prop where
  runBase : p.runBase ≤ 65535
  settleTime : 10 ≤ p.settleTime ∧ p.settleTime ≤ 2000
  replyTime : 1 ≤ p.replyTime ∧ p.replyTime ≤ 250
  retryLimit : p.retryLimit ≤ 3
  faultThreshold : 1 ≤ p.faultThreshold ∧ p.faultThreshold ≤ 8
  noticeWindow : 1 ≤ p.noticeWindow ∧ p.noticeWindow ≤ 16
  frameGapTime : 2 ≤ p.frameGapTime ∧ p.frameGapTime ≤ 100

/-- The 16-bit numbers, the counters and replies-since-notice lie in their ranges (R40, R41, R59, R103, R153, R154). -/
structure State.NumbersInRange (s : State) : Prop where
  generation : s.pe.generation ≤ 65535
  stamp : s.pe.stamp ≤ 65535
  joinCounts : ∀ k : SlotNo, (s.slot k).joinCount ≤ 65535
  sinceNotice : s.hli.sinceNotice ≤ 4
  linkCounters : ∀ n ∈ s.hli.counters.toList, n ≤ 4294967295
  laneCounters : ∀ k : SlotNo, ∀ n ∈ (s.slot k).lane.counters.toList, n ≤ 4294967295

/-! ## Host Link and Transaction Unit -/

/-- The tags in use: those of the Host Request Queue and those of the transactions (R147). -/
def State.tags (s : State) : List Byte := s.hli.requests.map HostRequest.tag ++ s.transactions.map Transaction.tag

/-- The queues of the Host Link stay within their capacities, and no tag is in use twice (R104, R147, R149, R151). -/
structure State.LinkBounded (s : State) : Prop where
  requests : s.hli.requests.length ≤ 16
  owed : s.owed ≤ 48
  tags : s.tags.Nodup

/-- The Transaction Table and the Lane Queues stay within their capacities (R104, R105). -/
structure State.TableBounded (s : State) : Prop where
  table : s.transactions.length ≤ 32
  lanes : ∀ k : SlotNo, (s.laneQueue k).length ≤ 4
  counts : ∀ t ∈ s.transactions, 1 ≤ t.count ∧ t.count ≤ 32
  blocks : ∀ t ∈ s.transactions, t.blocks.length = blocksFor t.count

/-- The blocks held by a transaction or by a reply, one entry for each holding. -/
def State.heldBlocks (s : State) : List BlockNo :=
  s.transactions.flatMap Transaction.blocks ++ s.hli.replies.flatMap Reply.blocks

/-- Every block has exactly one holder: the owner records agree with the block lists of the transactions and of the
replies, and no block is held twice (R106, R107). -/
structure State.PoolAccounted (s : State) : Prop where
  once : s.heldBlocks.Nodup
  free : ∀ b : BlockNo, s.pool[b].owner = .free ↔ b ∉ s.heldBlocks
  transactions : ∀ t ∈ s.transactions, ∀ b ∈ t.blocks, s.pool[b].owner = .transaction t.tag
  replies : ∀ r ∈ s.hli.replies, ∀ b ∈ r.blocks, s.pool[b].owner = .reply

/-! ## Attention Unit -/

/-- The sequence numbers run consecutively and the next one follows the newest (R127). -/
def consecutive : List Notice → Nat → Prop
  | [], _ => True
  | [n], next => next = nextSequence n.seq
  | n :: m :: rest, next => m.seq = nextSequence n.seq ∧ consecutive (m :: rest) next

/-- The SENT notices form an unbroken run at the head (R125). -/
def sentRun (queue : List Notice) : Prop :=
  ∀ n ∈ queue.dropWhile (fun n => n.delivery = .sent), n.delivery = .fresh

/-- The Attention Unit keeps its bounds, its numbering, its run of SENT notices and its lost-notice account (R125, R127,
R129, R130, R131). -/
structure AttentionUnit.Consistent (au : AttentionUnit) : Prop where
  length : au.queue.length ≤ 64
  events : au.eventCount ≤ 56
  nextSeq : 1 ≤ au.nextSeq ∧ au.nextSeq ≤ 65535
  numbers : ∀ n ∈ au.queue, 1 ≤ n.seq ∧ n.seq ≤ 65535
  numbering : consecutive au.queue au.nextSeq
  sent : sentRun au.queue
  lost : au.lostCount ≤ 65535
  summaryFull : au.summaryDue = true → au.queue.length = 64 ∧ 1 ≤ au.lostCount
  summaryClear : au.summaryDue = false → au.lostCount = 0

/-! ## Placement Engine -/

/-- The fields of a class entry lie in their ranges and an anchor region is aligned and within window space (R1, R3). -/
structure ClassEntry.Valid (c : ClassEntry) : Prop where
  code : 1 ≤ c.code ∧ c.code ≤ 0xFFFE
  rank : c.rank ≤ 31
  size : 1 ≤ c.size ∧ c.size ≤ 4096
  exponent : c.exponent ≤ 12
  span : c.span ≤ 16
  reserve : c.reserve ≤ 3
  anchor : ∀ b, c.anchor = some b → b % 2 ^ c.exponent = 0 ∧ b + c.size ≤ 65536

/-- Two extents share no word. -/
def Region.Disjoint (a b : Region) : Prop := a.base + a.size ≤ b.base ∨ b.base + b.size ≤ a.base

/-- The Class Catalogue: at most 32 valid entries in ascending rank, no code twice, anchor regions pairwise disjoint
(R1, R3). -/
structure CatalogueConsistent (catalogue : List ClassEntry) : Prop where
  length : catalogue.length ≤ 32
  valid : ∀ c ∈ catalogue, c.Valid
  ranks : catalogue.Pairwise fun a b => a.rank < b.rank
  codes : (catalogue.map ClassEntry.code).Nodup
  anchors : (anchorRegions catalogue).Pairwise Region.Disjoint

/-- One placement entry is well formed: within window space and event space, an event range only where its span is
above 0, a fence of one word without event range or anchored flag, the anchored flag only on a WINDOW or HELD_ANCHOR
(R37). -/
structure Entry.Valid (e : Entry) : Prop where
  size : 1 ≤ e.size
  extent : e.base + e.size ≤ 65536
  events : ∀ r, e.events = some r → 1 ≤ r.span ∧ r.base + r.span ≤ 256
  fence : e.kind = .fence → e.size = 1 ∧ e.events = none ∧ e.anchored = false
  anchored : e.anchored = true → e.kind.isWindow = true ∨ e.kind = .heldAnchor
  held : e.kind = .heldAnchor → e.anchored = true

/-- Two event ranges share no number. -/
def EventRange.Disjoint (a b : EventRange) : Prop := a.base + a.span ≤ b.base ∨ b.base + b.span ≤ a.base

/-- A layout, installed or drafted: at most 176 valid entries in ascending base order, no two sharing a word or an
event number, no slot named by two WINDOW entries (R31, R37, R38). -/
structure LayoutConsistent (entries : List Entry) : Prop where
  length : entries.length ≤ 176
  valid : ∀ e ∈ entries, e.Valid
  words : entries.Pairwise fun a b => a.base + a.size ≤ b.base
  numbers : (entries.filterMap Entry.events).Pairwise EventRange.Disjoint
  slots : (entries.filterMap fun e => e.kind.slot?).Nodup

/-- The Placement Engine's own data is consistent (R1, R3, R37). -/
structure State.PlacementConsistent (s : State) : Prop where
  catalogue : CatalogueConsistent s.pe.catalogue
  layout : LayoutConsistent s.pe.placement

/-- What the Active Placement says of the catalogue and of the slots: a class's entries are those of its catalogue
entry, a slot is named by a WINDOW of its class exactly when it is PLACED or DRAINING, and the class of a
participating slot is in the catalogue and admits its event count (R11, R17, R38). -/
structure State.PlacementAgrees (s : State) : Prop where
  classes : ∀ e ∈ s.pe.placement, ∃ c ∈ s.pe.catalogue, c.code = e.classCode ∧
    (e.kind = .fence ∨ (e.size = c.size ∧ e.events.map EventRange.span = if c.span = 0 then none else some c.span))
  windows : ∀ k : SlotNo, (windowOf s.pe.placement k).isSome = (s.slot k).state.holdsWindow
  windowClass : ∀ e ∈ s.pe.placement, ∀ k, e.kind = .window k → (s.slot k).classCode = e.classCode
  members : ∀ k : SlotNo, (s.slot k).state.participates = true →
    ∃ id, (s.slot k).identity = some id ∧ ∃ c, s.pe.lookup id.classCode = some c ∧ id.eventCount ≤ c.span

/-! ## Slot Controllers -/

/-- What an outstanding exchange asks of its slot: a probe of purpose FIRST belongs to PROBING, any other exchange to a
slot that is PENDING, PLACED or DRAINING (R85, R87). -/
def Exchange.suits (x : Exchange) (st : SlotState) : Prop :=
  if x.kind = .probe .first then st = .probing else st.participates = true

/-- The slot is FAILED. -/
def SlotState.isFailed : SlotState → Bool
  | .failed _ => true
  | _ => false

/-- One Slot Controller on its own: the presence line is high exactly outside EMPTY, a settle period runs exactly in
SETTLING, EMPTY has no identity, the failure count is at most 8 and reaches 8 only in FAILED, resync is required only of
a PENDING, PLACED or DRAINING slot, PROBING has its probe, an exchange suits the slot state and has been sent 1 to 4
times, and only a READ or WRITE is cancelled (R59 to R63, R85, R90, R95, R96). -/
structure Slot.Consistent (sl : Slot) : Prop where
  presence : sl.presence = true ↔ sl.state ≠ .empty
  settle : sl.settle.isSome = true ↔ sl.state = .settling
  identity : sl.state = .empty → sl.identity = none
  failures : sl.failures ≤ 8
  failing : sl.state.isFailed = false → sl.failures ≤ 7
  resync : sl.lane.resyncRequired = true → sl.state.participates = true
  probing : sl.state = .probing → sl.lane.exchange.map Exchange.kind = some (.probe .first)
  exchange : ∀ x, sl.lane.exchange = some x → x.suits sl.state ∧ 1 ≤ x.sends ∧ x.sends ≤ 4
  cancelled : ∀ x, sl.lane.exchange = some x → x.cancelled = true → x.kind.tag?.isSome = true

/-- While the power-on reset is applied every block stands at its power-on value (R165). -/
def State.HeldAtPowerOn (s : State) : Prop := s.held = true → s = State.powerOn s.pending

/-- The sixteen Slot Controllers, with the parameters they hold (R59, R157). -/
structure State.SlotsInvariant (s : State) : Prop where
  params : s.params.InRange
  held : s.HeldAtPowerOn
  slots : ∀ k : SlotNo, (s.slot k).Consistent

/-! ## Placement Engine with its slots -/

/-- The Placement Engine's data is consistent and agrees with the slots (R1, R3, R11, R17, R37, R38). -/
structure State.PlacementInvariant (s : State) : Prop where
  consistent : s.PlacementConsistent
  agrees : s.PlacementAgrees

/-! ## Tags, replies and blocks -/

/-- The account of tags, replies owed, transactions and blocks (R104 to R107, R147, R149, R151). -/
structure State.LedgerInvariant (s : State) : Prop where
  link : s.LinkBounded
  table : s.TableBounded
  pool : s.PoolAccounted

/-! ## Lanes and transactions -/

/-- A transaction that is not WAITING is the oldest of its Lane Queue (R105). -/
def laneOrdered : List Transaction → Prop
  | [] => True
  | _ :: rest => ∀ t ∈ rest, t.state = .waiting

/-- The lanes and the Transaction Table agree. Every transaction belongs to a slot that is PENDING, PLACED or DRAINING;
only the oldest of a Lane Queue is in exchange; a READ or WRITE is that of the one transaction of the slot that is in
exchange, with its cancelled mark; a HALT whose release has not ended belongs to a DRAINING slot with halt sent and an
empty Lane Queue (R73, R85, R104, R105, R122). -/
structure State.LanesInvariant (s : State) : Prop where
  participates : ∀ t ∈ s.transactions, (s.slot t.slot).state.participates = true
  oldest : ∀ k : SlotNo, laneOrdered (s.laneQueue k)
  carried : ∀ k : SlotNo, ∀ x, (s.slot k).lane.exchange = some x → ∀ tag, x.kind.tag? = some tag →
    ∃ t ∈ s.laneQueue k, t.tag = tag ∧ x.kind = t.exchangeKind ∧
      t.state = if x.cancelled then .cancelling else .inExchange
  carrying : ∀ t ∈ s.transactions, t.state ≠ .waiting →
    ∃ x, (s.slot t.slot).lane.exchange = some x ∧ x.kind.tag? = some t.tag
  halting : ∀ k : SlotNo, ∀ x, (s.slot k).lane.exchange = some x → x.kind = .halt → x.releaseEnded = false →
    (s.slot k).state = .draining true ∧ s.laneQueue k = []

/-! ## Runs of commands -/

/-- The outcome of a sequence of commands run one after another. -/
def runAll : List Instr → State → Host.Outcome State Fault Refusal
  | [], s => .next s
  | c :: rest, s =>
    match exec c s with
    | .next t => runAll rest t
    | .fault r => .fault r
    | .refused r => .refused r

/-! ## The request that can be taken -/

/-- A request stands at the head of the Host Request Queue and can be taken: no power-on reset is applied and fewer than
48 replies are owed (R149, R165). -/
structure State.Offers (s : State) (r : HostRequest) : Prop where
  running : s.held = false
  room : s.owed < 48
  head : s.hli.requests.head? = some r

/-! ## Requests and replies -/

/-- The request codes of the table of R150. -/
def requestCodes : List Byte :=
  [0x01, 0x02, 0x03, 0x04, 0x08, 0x09, 0x0A, 0x0C, 0x0D, 0x0E, 0x10, 0x11, 0x12, 0x14, 0x15, 0x16, 0x18, 0x19, 0x1A,
    0x1B]

/-- The body lengths the last column of the table of R168 admits for a request code. -/
def bodyLengths (code : Byte) : List Nat :=
  if code = 0x02 then [12]
  else if code = 0x08 then [13]
  else if code ∈ [0x09, 0x0E, 0x18, 0x19] then [4]
  else if code = 0x14 then [7]
  else if code = 0x15 then (List.range 33).map fun n => 7 + 4 * n
  else if code = 0x1A then [6]
  else if code = 0x1B then [5]
  else [3]

/-- The command that stands for the taking of a request. -/
def Request.command : Request → Instr
  | .unknown => .unknownRequest
  | .badFormat => .unknownRequest
  | .queryPart => .queryPart
  | .setParameters _ => .setParameters
  | .readParameters => .readParameters
  | .restart _ => .restart
  | .defineClass _ => .defineClass
  | .dropClass _ => .dropClass
  | .readClass _ => .readClass
  | .readPlacement _ => .readPlacement
  | .readDraft _ => .readDraft
  | .commitPlacement _ => .commitPlacement
  | .readSlot _ => .readSlot
  | .resetSlot _ => .resetSlot
  | .releaseSlot _ => .releaseSlot
  | .accessRead _ _ _ => .accessRead
  | .accessWrite _ _ _ _ => .accessWrite
  | .cancelAccess _ => .cancelAccess
  | .acknowledgeNotices _ => .acknowledgeNotices
  | .resendNotices _ => .resendNotices
  | .setEventEnable _ _ _ => .setEventEnable
  | .readCounters _ _ _ => .readCounters

/-- The command is the taking of a request. -/
def takesRequest (c : Instr) : Prop := ∃ q : Request, q.command = c

/-- The head has left the Host Request Queue, and its reply stands at the tail of the Reply Queue (R149, R151). -/
def State.replied (s : State) (r : HostRequest) (status : Status) (fields : ReplyFields) : State :=
  { s with hli := { s.hli with
      requests := s.hli.requests.tail
      replies := s.hli.replies ++ [⟨replyCode r.code, r.tag, status, fields⟩] } }

/-- The fields of a Set Parameters that carries a set of parameters (R167, R168). -/
def Params.fields (p : Params) : ParamFields :=
  { joinPolicy := match p.joinPolicy with
      | .fillOnly => 0
      | .autoCommit => 1
    runBase := p.runBase, settleTime := p.settleTime, replyTime := p.replyTime, retryLimit := p.retryLimit,
    faultThreshold := p.faultThreshold, noticeWindow := p.noticeWindow, frameGapTime := p.frameGapTime }

/-- The class entry the fields of a Define Class describe (R1, R168). -/
def ClassFields.entry (f : ClassFields) : ClassEntry :=
  { code := f.code, rank := f.rank, size := f.size, exponent := f.exponent, span := f.span, reserve := f.reserve,
    anchor := if f.anchorIndication = 1 then some f.anchorBase else none }

/-- Check 1 of the table of R4 fails. -/
def ClassFields.BadParam (f : ClassFields) : Prop :=
  f.code = 0 ∨ f.code = 0xFFFF ∨ 31 < f.rank ∨ f.size = 0 ∨ 4096 < f.size ∨ 12 < f.exponent ∨ 16 < f.span ∨ 3 < f.reserve
    ∨ 1 < f.anchorIndication
    ∨ (f.anchorIndication = 1 ∧ (¬ 2 ^ f.exponent ∣ f.anchorBase ∨ 65536 < f.anchorBase + f.size))

/-- The anchor region a Define Class asks for overlaps that of an entry with a different class code (R3, R4). -/
def ClassFields.AnchorConflict (f : ClassFields) (catalogue : List ClassEntry) : Prop :=
  f.anchorIndication = 1 ∧ ∃ d ∈ catalogue, d.code ≠ f.code ∧ ∃ b, d.anchor = some b ∧
    ¬ Region.Disjoint ⟨f.anchorBase, f.size⟩ ⟨b, d.size⟩

/-- A slot in PENDING, PLACED or DRAINING carries the class code (R4, R8). -/
def State.Carried (s : State) (code : Nat) : Prop :=
  ∃ k : SlotNo, (s.slot k).state.participates = true ∧ (s.slot k).classCode = code

/-! ## Slots, lanes and transactions -/

/-- One Slot Controller is replaced. -/
def State.withSlot (s : State) (k : SlotNo) (sl : Slot) : State := { s with slots := s.slots.set k sl }

/-- One lane engine is replaced. -/
def State.withLane (s : State) (k : SlotNo) (l : Lane) : State := s.withSlot k { s.slot k with lane := l }

/-- The lane without its exchange: the record, its timer and its waiting frame are gone, the outbound phase is the one
given, and a frame of the exchange that is being sent belongs to nothing any more (R88, R89, R92, R93). -/
def Lane.freed (l : Lane) (phase : Bool) : Lane :=
  { l with
    exchange := none
    outboundPhase := phase
    sending := l.sending.map fun f => if f.source = .exchange then { f with source := .abandoned } else f }

/-- The lane on which a Reset Slot or a failure of the slot has abandoned what was outstanding (R93). -/
def Lane.abandoned (l : Lane) : Lane :=
  { (if l.exchange.isSome then l.freed (!l.outboundPhase) else l) with resyncRequired := false }

/-- The lane engine as presence loss leaves it: as after a power-on reset, with its counters and its receiver kept and a
frame that is being sent going on to its end (R85, R93). -/
def Lane.cleared (l : Lane) : Lane where
  outboundPhase := false
  exchange := none
  resyncRequired := false
  lastEventPhase := false
  eventAnswer := none
  sending := l.sending.map fun f => { f with source := .abandoned }
  receiver := l.receiver
  counters := l.counters

/-- The reply that a transaction ended without data leaves behind. -/
def Transaction.replyWith (t : Transaction) (status : Status) (fields : ReplyFields) : Reply :=
  ⟨replyCode t.kind.code, t.tag, status, fields⟩

/-- The reply of a transaction whose slot's tenure ends (R117). -/
def Transaction.tenureReply (t : Transaction) (status : Status) : Reply :=
  if t.state = .cancelling then t.replyWith .cancelled (.cancelled t.generation .unknown)
  else t.replyWith status (.generation t.generation)

/-- Transactions end without data: their entries and tags are released, their blocks are free, and their replies enter
the Reply Queue in the order of the list (R107, R117 to R119). -/
def State.ended (s : State) (ts : List Transaction) (f : Transaction → Reply) : State :=
  { s with
    transactions := s.transactions.filter fun t => decide (t ∉ ts)
    pool := Vector.ofFn fun b : Fin 96 =>
      if b ∈ ts.flatMap Transaction.blocks then { s.pool[b] with owner := .free } else s.pool[b]
    hli := { s.hli with replies := s.hli.replies ++ ts.map f } }

/-- No two transactions carry the same host tag (R104). -/
def State.TagsDistinct (s : State) : Prop := (s.transactions.map Transaction.tag).Nodup

/-! ## Placement -/

/-- The Placement Engine after a slot in a state has left it for one that is neither PLACED nor DRAINING nor PENDING: a
window becomes a hole, and leaving the participating set increments the draft stamp once (R48, R49). -/
def State.departed (s : State) (k : SlotNo) : PlacementEngine :=
  { s.pe with
    placement :=
      if (s.slot k).state.holdsWindow then
        s.pe.placement.map fun e =>
          if e.kind = .window k then { e with kind := if e.anchored then .heldAnchor else .vacancy } else e
      else s.pe.placement
    stamp := if (s.slot k).state.participates then nextStamp s.pe.stamp else s.pe.stamp }

/-- The draft leaves every placed module and every standing anchor where it is: the three conditions of R45. -/
def State.Undisturbed (s : State) (draft : List Entry) : Prop :=
  (∀ k : SlotNo, (s.slot k).state.holdsWindow = true →
    ∃ d p, windowOf draft k = some d ∧ windowOf s.pe.placement k = some p ∧ d.base = p.base ∧
      d.events.map EventRange.base = p.events.map EventRange.base) ∧
  (∀ e ∈ s.pe.placement, e.kind = .heldAnchor ∨ (e.kind.isWindow = true ∧ e.anchored = true) →
    ∃ d ∈ draft, d.anchored = true ∧ d.classCode = e.classCode ∧ d.base = e.base)

/-- The state and the exchange of a Slot Controller after a commit that does or does not lay the slot out (R50, R75). -/
def Slot.committed (sl : Slot) (fitted : Bool) : Slot :=
  if sl.state.participates = false then sl
  else if fitted then { sl with state := if sl.state.holdsWindow then sl.state else .placed }
  else
    { sl with
      state := .pending .noSpace
      lane := { sl.lane with
        exchange := sl.lane.exchange.map fun x =>
          if sl.state.holdsWindow && sl.state != .placed && x.kind = .halt then { x with releaseEnded := true } else x } }

/-- Items laid out one after another, each from the cursors the one before left (R22, R26). -/
def laidOut (regions : List Region) : List Item → Cursors → List Entry → Cursors → Prop
  | [], cur, [], last => cur = last
  | item :: items, cur, e :: es, last =>
    ∃ next, placeItem regions item cur = some (e, next) ∧ laidOut regions items next es last
  | [], _, _ :: _, _ => False
  | _ :: _, _, [], _ => False

/-! ## Attention Unit -/

/-- The frame being sent, after the notices of some sequence numbers have left the queue: a frame of such a notice
stands for no queued notice any more (R132, R152). -/
def HostLink.forgets (h : HostLink) (gone : List Nat) : HostLink :=
  { h with
    sending := h.sending.map fun f =>
      match f.source with
      | .notice q => if q ∈ gone then { f with source := .noticeRemoved } else f
      | .refusal => f
      | .reply => f
      | .noticeRemoved => f }

end Sys2Proof.Machine
end

