-- ==== Sys2Proof/Certificates/Slice0/Obligations.lean ====
section
/-! DEFINITION. The statements about the model, for the provers. A next state that a statement writes out as a record
update says the frame of the command with it: every field not named is as before. `transmit` at the end of a step is the
arbiter's choice by an idle Host Link transmitter, the model's reading of R152 (log 8). -/

open Sys2Proof Sys2Proof.Machine

/-! ## The queue of commands and the power-on reset -/

/-- A step takes the command at the front of the queue and is its meaning on the state with the queue's rest. -/
def Obligations.StepRunsFrontCommand : Prop :=
  ∀ (c : Instr) (rest : List Instr) (s : State), s.pending = c :: rest → step s = exec c { s with pending := rest }

/-- Every command has an outcome in every state, never a fault and never a refusal, and leaves the commands that wait
as they are. -/
def Obligations.EveryCommandCompletes : Prop :=
  ∀ (c : Instr) (s : State), ∃ t, exec c s = .next t ∧ t.pending = s.pending

/-- Where a command's step cannot come about, the part stays as it is (the model's choices of log 1, 3, 6, 14 and 15): on an
empty queue of commands; while the power-on reset is applied, but for the reset's own two commands; for a slot number that
names no slot, or a line that shows no start bit (log 1); for the taking of a request other than the one on offer; and for
each event whose cause is absent. -/
def Obligations.StepsThatCannotComeAbout : Prop :=
  (∀ s : State, s.pending = [] → step s = .next s) ∧
  (∀ (c : Instr) (s : State), s.held = true → c ≠ .powerOnReset → (∀ a b p, c ≠ .resetEnd a b p) → exec c s = .next s) ∧
  (∀ (c : Instr) (s : State), c.WellFormed = false → exec c s = .next s) ∧
  (∀ (c : Instr) (s : State), takesRequest c → (∀ r, s.Offers r → (decodeRequest r).command ≠ c) → exec c s = .next s) ∧
  (∀ s : State, s.hli.receiver = .hunting → exec .gapTimerExpiry s = .next s) ∧
  (∀ s : State, s.hli.sending = none → exec .hostFrameSent s = .next s) ∧
  (∀ (s : State) (a b : Bool) (p : BitVec 16), s.held = false → exec (.resetEnd a b p) s = .next s) ∧
  (∀ (s : State) (k : SlotNo),
    ((s.slot k).state ≠ .empty → exec (.presenceRise k) s = .next s) ∧
    ((s.slot k).state = .empty → exec (.presenceLoss k) s = .next s) ∧
    ((s.slot k).state ≠ .settling → exec (.settlePeriodExpiry k) s = .next s) ∧
    ((s.slot k).lane.receiver = .between → exec (.laneSilenceTimeout k) s = .next s) ∧
    ((s.slot k).lane.sending = none → exec (.laneFrameSent k) s = .next s) ∧
    ((∀ x, (s.slot k).lane.exchange = some x → x.timer = none) → exec (.replyTimeExpiry k) s = .next s))

/-- A power-on reset puts every block at its power-on value, whatever the part was doing (R13, R58, R81, R85, R140, R155,
R157, R165). That every slot stands EMPTY until the reset ends, and that the queue of commands stays, are log 6; that every
lane transmitter is idle, a frame it was sending dropped, is log 21. -/
def Obligations.PowerOnState : Prop :=
  ∀ s : State, ∃ t, exec .powerOnReset s = .next t ∧
    t.held = true ∧
    t.params = ⟨.fillOnly, 256, 100, 20, 2, 3, 8, 10⟩ ∧
    t.pe = ⟨[], [], 0, 0⟩ ∧
    t.transactions = [] ∧
    (∀ b : BlockNo, t.pool[b].owner = .free) ∧
    t.au.queue = [] ∧ t.au.nextSeq = 1 ∧ t.au.summaryDue = false ∧ t.au.lostCount = 0 ∧
    (∀ n : Fin 256, t.au.enabled[n] = true) ∧
    t.hli.receiver = .hunting ∧ t.hli.requests = [] ∧ t.hli.replies = [] ∧ t.hli.refusal = none ∧
    t.hli.sending = none ∧ t.hli.sinceNotice = 0 ∧ t.hli.counters = ⟨0, 0, 0, 0, 0⟩ ∧
    (∀ k : SlotNo, t.slot k =
      { presence := false, state := .empty, settle := none, identity := none, joinCount := 0, failures := 0,
        lane :=
          { outboundPhase := false, exchange := none, resyncRequired := false, lastEventPhase := false,
            eventAnswer := none, sending := none, receiver := .between, counters := {} } }) ∧
    t.pending = s.pending

/-- When the power-on reset ends, the straps are sampled, each slot whose presence line is high is SETTLING for the
power-on Settle Time of 100 ms, the others are EMPTY, and the part runs (R81, R142, R165). -/
def Obligations.ResetEndStartsPart : Prop :=
  ∀ (s : State) (rate1 rate0 : Bool) (presence : BitVec 16), s.held = true → s.HeldAtPowerOn →
    (∃ t, exec (.resetEnd rate1 rate0 presence) s = .next t ∧
      t = { State.powerOn s.pending with
        held := false
        hli := { HostLink.powerOn with rate1 := rate1, rate0 := rate0 }
        slots := t.slots } ∧
      (∀ k : SlotNo, t.slot k =
        if presence.getLsbD k.val then
          { Slot.powerOn with presence := true, state := .settling, settle := some 100 }
        else Slot.powerOn) ∧
      t.hli.bitRate =
        if rate1 then (if rate0 then 3000000 else 921600) else (if rate0 then 460800 else 115200))

/-- `State.reset` meets every invariant. It is the part after a power-on reset that ended with both straps and every presence
line low, levels that are the model's choice (log 5); other levels are the subject of `ResetEndStartsPart`. -/
def Obligations.ResetMeetsInvariants : Prop :=
  State.reset.NumbersInRange ∧ State.reset.au.Consistent ∧ CatalogueConsistent State.reset.pe.catalogue ∧
  State.reset.SlotsInvariant ∧ State.reset.PlacementInvariant ∧ State.reset.LedgerInvariant ∧ State.reset.LanesInvariant

/-- What the host configures changes only by the request that configures it, or at a power-on reset; the generation
changes only at a commit or a Restart, and a commit not requested needs the Join Policy AUTO_COMMIT (R1, R40, R47, R138,
R142, R157). -/
def Obligations.ConfigurationChangesOnlyBy : Prop :=
  ∀ (c : Instr) (s t : State), exec c s = .next t → c ≠ .powerOnReset →
    (t.params ≠ s.params → c = .setParameters) ∧
    (t.au.enabled ≠ s.au.enabled → c = .setEventEnable) ∧
    (t.pe.catalogue ≠ s.pe.catalogue → c = .defineClass ∨ c = .dropClass ∨ c = .restart) ∧
    ((t.hli.rate1 ≠ s.hli.rate1 ∨ t.hli.rate0 ≠ s.hli.rate0 ∨ t.held ≠ s.held) → ∃ a b p, c = .resetEnd a b p) ∧
    (t.pe.generation ≠ s.pe.generation →
      c = .commitPlacement ∨ c = .restart ∨
      (s.params.joinPolicy = .autoCommit ∧ (c = .defineClass ∨ ∃ k b, c = .laneByteReceived k b)))

/-! ## The Host Link -/

/-- The serial form of a byte: start bit, eight data bits least significant first, no parity, stop bit, the bytes of a frame
sent without pause; the receiver takes the data bits whether or not the stop bit is high (R142). That a start bit is low and
the stop bit the part sends high is log 1. Then one byte in each stage of the Host Link receiver but the last, and the expiry
of the gap timer (R144, R145). That a frame keeps the Frame Gap Time of its sync byte is log 18. -/
def Obligations.HostByteStages : Prop :=
  (∀ (line : LineByte) (i : Fin 8), (byteOnLine line).getLsbD i.val = line.data[i]) ∧
  (∀ bytes : List Byte,
    let levels : List Bool := bytes.flatMap fun b =>
      [false, b.getLsbD 0, b.getLsbD 1, b.getLsbD 2, b.getLsbD 3, b.getLsbD 4, b.getLsbD 5, b.getLsbD 6, b.getLsbD 7, true]
    (∀ source, HostSending.levels ⟨source, bytes⟩ = levels) ∧
    (∀ source replyTime, LaneSending.levels ⟨source, replyTime, bytes⟩ = levels)) ∧
  ∀ (s : State) (line : LineByte), s.held = false → line.start = false →
    let b := byteOnLine line
    let at' (r : Receiver) (c : LinkCounters) : State := { s with hli := { s.hli with receiver := r, counters := c } }
    (s.hli.receiver = .hunting → b = 0xA5 →
      exec (.hostByteReceived line) s = .next (at' (.awaitingLength s.params.frameGapTime) s.hli.counters).transmit) ∧
    (s.hli.receiver = .hunting → b ≠ 0xA5 →
      exec (.hostByteReceived line) s = .next (at' .hunting s.hli.counters).transmit) ∧
    (∀ gap, s.hli.receiver = .awaitingLength gap → 3 ≤ b.toNat → b.toNat ≤ 248 →
      exec (.hostByteReceived line) s = .next (at' (.body gap b.toNat []) s.hli.counters).transmit) ∧
    (∀ gap, s.hli.receiver = .awaitingLength gap → b.toNat < 3 ∨ 248 < b.toNat →
      exec (.hostByteReceived line) s =
        .next (at' .hunting { s.hli.counters with badLength := bump s.hli.counters.badLength }).transmit) ∧
    (∀ gap len received, s.hli.receiver = .body gap len received → received.length + 1 < len →
      exec (.hostByteReceived line) s = .next (at' (.body gap len (received ++ [b])) s.hli.counters).transmit) ∧
    (∀ gap len received, s.hli.receiver = .body gap len received → len ≤ received.length + 1 →
      exec (.hostByteReceived line) s = .next (at' (.check gap len (received ++ [b]) []) s.hli.counters).transmit) ∧
    (∀ gap len body, s.hli.receiver = .check gap len body [] →
      exec (.hostByteReceived line) s = .next (at' (.check gap len body [b]) s.hli.counters).transmit) ∧
    (s.hli.receiver ≠ .hunting →
      exec .gapTimerExpiry s =
        .next (at' .hunting { s.hli.counters with gapAbandon := bump s.hli.counters.gapAbandon }).transmit)

/-- A whole frame received from HUNTING, whatever its body, its two check bytes and the stop bits on the line: a wrong check
is counted and nothing else happens; a right one is counted, and the request is refused with TAG_IN_USE, refused with
QUEUE_FULL, or queued (R143, R144, R146 to R148). -/
def Obligations.HostFrameJudged : Prop :=
  ∀ (s : State) (body : List Byte) (c1 c0 : Byte) (lines : List LineByte), s.held = false → s.hli.receiver = .hunting →
    3 ≤ body.length → body.length ≤ 248 → (∀ line ∈ lines, line.start = false) →
    lines.map byteOnLine = 0xA5 :: byteOf body.length :: (body ++ [c1, c0]) →
    let r : HostRequest := ⟨body.getD 0 0, body.getD 1 0, body.drop 2⟩
    let h := s.transmit.hli
    let counted : LinkCounters := { h.counters with goodFrames := bump h.counters.goodFrames }
    let refusal (status : Status) : HostLink :=
      match h.refusal with
      | none => { h with counters := counted, refusal := some ⟨replyCode r.code, r.tag, status⟩ }
      | some _ => { h with counters := { counted with refusalsDropped := bump counted.refusalsDropped } }
    let ends (h' : HostLink) : Prop :=
      runAll (lines.map Instr.hostByteReceived) s = .next (State.transmit { s.transmit with hli := h' })
    ([c1, c0] ≠ checkBytes (byteOf body.length :: body) →
      ends { h with counters := { h.counters with badCheck := bump h.counters.badCheck } }) ∧
    ([c1, c0] = checkBytes (byteOf body.length :: body) →
      (r.tag ∈ s.tags → ends (refusal .tagInUse)) ∧
      (r.tag ∉ s.tags → 16 ≤ s.hli.requests.length → ends (refusal .queueFull)) ∧
      (r.tag ∉ s.tags → s.hli.requests.length < 16 →
        ends { h with counters := counted, requests := h.requests ++ [r] }))

/-- When the last byte of a host frame has been sent, its source is updated as the table of R152 states: a refusal empties the
slot; a reply leaves its queue and returns its blocks (R120); a notice becomes SENT, provided it is still queued and every
older notice is SENT (R132). The blocks a reply holds are those with the words of a read (R120). -/
def Obligations.HostFrameSentUpdatesSource : Prop :=
  (∀ r : Reply, r.blocks = match r.fields with
    | .data _ _ blocks => blocks
    | _ => []) ∧
  (∀ (q : Nat) (queue : List Notice),
    ((∀ n ∈ queue, n.seq ≠ q) → markSent q queue = queue) ∧
    (∀ older n newer, queue = older ++ n :: newer → n.seq = q → (∀ m ∈ older, m.seq ≠ q) →
      ((∀ m ∈ older, m.delivery = .sent) → markSent q queue = older ++ { n with delivery := .sent } :: newer) ∧
      ((∃ m ∈ older, m.delivery = .fresh) → markSent q queue = queue))) ∧
  ∀ (s : State) (f : HostSending), s.held = false → s.hli.sending = some f →
    (f.source = .refusal →
      exec .hostFrameSent s =
        .next (State.transmit { s with hli := { s.hli with
          sending := none, refusal := none, sinceNotice := bumpSinceNotice s.hli.sinceNotice } })) ∧
    (∀ r rest, f.source = .reply → s.hli.replies = r :: rest →
      exec .hostFrameSent s =
        .next (State.transmit { s with
          pool := Vector.ofFn fun b : Fin 96 =>
            if b ∈ r.blocks then { s.pool[b] with owner := .free } else s.pool[b]
          hli := { s.hli with
            sending := none, replies := rest, sinceNotice := bumpSinceNotice s.hli.sinceNotice } })) ∧
    (∀ q, f.source = .notice q →
      exec .hostFrameSent s =
        .next (State.transmit { s with
          au := { s.au with queue := markSent q s.au.queue }
          hli := { s.hli with sending := none, sinceNotice := 0 } })) ∧
    (f.source = .noticeRemoved →
      exec .hostFrameSent s =
        .next (State.transmit { s with hli := { s.hli with sending := none, sinceNotice := 0 } }))


/-- The Attention Unit offers the oldest NEW notice while the SENT notices number fewer than the Notice Window, and an idle
transmitter takes the first source of the table of R153 that has something; a busy one goes on with its frame (R132, R152,
R153). What is sent, byte by byte: a number high byte first; the check, the CRC of R143 bit by bit; the frame of R143,
sync, length, body and check over both; the reply code of R148; the status values of 10.5 and the enumerated values of
R167; the body of a refusal, of a reply (R167, R169; the counters in the order of R154 and R103) and of a notice (R170).
The fields of the replies to Query Part, Read Placement, Read Draft and Read Slot are in `ReportsChangeNothing`, those of
Read Class in `ReadClassReports`. -/
def Obligations.ArbiterChoice : Prop :=
  (∀ (au : AttentionUnit) (w : Nat) (n : Notice), au.offer w = some n ↔
    (au.queue.filter fun m => m.delivery = .sent).length < w ∧
    ∃ older newer, au.queue = older ++ n :: newer ∧ n.delivery = .fresh ∧ ∀ m ∈ older, m.delivery = .sent) ∧
  (∀ s : State,
    let offered := s.au.offer s.params.noticeWindow
    let sends (source : FrameSource) (body : List Byte) : Prop :=
      s.transmit = { s with hli := { s.hli with sending := some ⟨source, hostFrame body⟩ } }
    (s.hli.sending ≠ none → s.transmit = s) ∧
    (s.hli.sending = none →
      (∀ r, s.hli.refusal = some r → sends .refusal r.toBody) ∧
      (∀ n, s.hli.refusal = none → s.hli.sinceNotice = 4 → offered = some n → sends (.notice n.seq) n.toBody) ∧
      (∀ r rest, s.hli.refusal = none → s.hli.sinceNotice ≠ 4 ∨ offered = none → s.hli.replies = r :: rest →
        sends .reply (r.toBody s.pool)) ∧
      (∀ n, s.hli.refusal = none → s.hli.replies = [] → offered = some n → sends (.notice n.seq) n.toBody) ∧
      (s.hli.refusal = none → s.hli.replies = [] → offered = none → s.transmit = s))) ∧
  -- numbers, check, frame and reply code
  (∀ n, n < 256 → (byteOf n).toNat = n) ∧
  (∀ n, n < 65536 → ∃ hi lo : Byte, be16 n = [hi, lo] ∧ hi.toNat * 256 + lo.toNat = n) ∧
  (∀ w : Word, ∃ a b c d : Byte, be32 w = [a, b, c, d] ∧
    ((a.toNat * 256 + b.toNat) * 256 + c.toNat) * 256 + d.toNat = w.toNat) ∧
  (∀ bytes : List Byte,
    let bits : List Bool := bytes.flatMap fun b =>
      [b.getLsbD 7, b.getLsbD 6, b.getLsbD 5, b.getLsbD 4, b.getLsbD 3, b.getLsbD 2, b.getLsbD 1, b.getLsbD 0]
    let crc : BitVec 16 := bits.foldl (fun c bit => (c <<< 1) ^^^ (if c.msb = bit then 0 else 0x1021)) 0xFFFF
    ∃ hi lo : Byte, checkBytes bytes = [hi, lo] ∧ hi.toNat * 256 + lo.toNat = crc.toNat) ∧
  (∀ body : List Byte,
    hostFrame body = 0xA5 :: byteOf body.length :: (body ++ checkBytes (byteOf body.length :: body))) ∧
  (∀ code : Byte, (code.toNat < 0x80 → (replyCode code).toNat = code.toNat + 0x80) ∧
    (0x80 ≤ code.toNat → replyCode code = code)) ∧
  -- the values of a status and of the enumerated fields
  (∀ status : Status,
    [Status.ok, .queueFull, .tagInUse, .unknownRequest, .badFormat, .badParam, .catalogueFull, .rankTaken, .noClass,
      .classInUse, .anchorConflict, .draftChanged, .staleView, .unmapped, .vacant, .reserved, .spanError, .fenceWrite,
      .slotState, .slotReleasing, .noTxn, .laneBusy, .noBuffer, .moduleRefused, .laneTimeout, .laneFault, .moduleGone,
      .cancelled, .noSuchTag, .aborted, .slotReset, .badSeq, .protocolError][status.toByte.toNat]? = some status) ∧
  (∀ (pending : PendingReason) (failed : FailReason) (haltSent : Bool),
    [SlotState.empty, .settling, .probing, .unknownClass, .pending pending, .placed, .draining haltSent, .released,
      .failed failed].map SlotState.stateByte = [0, 1, 2, 3, 4, 5, 6, 7, 8] ∧
    [SlotState.empty, .settling, .probing, .unknownClass, .placed, .draining haltSent, .released].map SlotState.reasonByte =
      [0, 0, 0, 0, 0, 0, 0]) ∧
  [SlotState.pending .awaitingCommit, .pending .noSpace, .failed .noIdent, .failed .laneFault, .failed .spanMismatch].map
    SlotState.reasonByte = [1, 2, 3, 4, 5] ∧
  [JoinPolicy.fillOnly, .autoCommit].map JoinPolicy.toByte = [0, 1] ∧
  [RestartScope.keepCatalogue, .full].map RestartScope.toByte = [0, 1] ∧
  [DefineOutcome.created, .redefined].map DefineOutcome.toByte = [1, 2] ∧
  [TransactionState.waiting, .inExchange, .cancelling].map TransactionState.toByte = [1, 2, 3] ∧
  -- the body of a refusal and of a reply
  (∀ r : RefusalFrame, r.toBody = [r.code, r.tag, r.status.toByte]) ∧
  (∀ (pool : Pool) (r : Reply),
    r.toBody pool = [r.code, r.tag, r.status.toByte] ++ r.fields.toBytes pool ∧
    (∀ fields : ReplyFields, fields.toBytes pool = match fields with
      | .none => []
      | .stamp t => be16 t
      | .params p => [p.joinPolicy.toByte] ++ be16 p.runBase ++ be16 p.settleTime ++ [byteOf p.replyTime,
          byteOf p.retryLimit, byteOf p.faultThreshold, byteOf p.noticeWindow, byteOf p.frameGapTime]
      | .restart scope g t aborted next => [scope.toByte] ++ be16 g ++ be16 t ++ [byteOf aborted] ++ be16 next
      | .defined outcome rejudged t => [outcome.toByte, byteOf rejudged] ++ be16 t
      | .committed g t fitted unfit => be16 g ++ be16 t ++ [byteOf fitted, byteOf unfit]
      | .slotState state => [state.stateByte]
      | .data g count blocks => be16 g ++ [byteOf count] ++ (pool.read blocks count).flatMap be32
      | .fenceWord g word => be16 g ++ [1] ++ be32 word
      | .generation g => be16 g
      | .moduleRefused g reason => be16 g ++ [reason]
      | .cancelled g .notSent => be16 g ++ [1, 0, 0]
      | .cancelled g (.performed none) => be16 g ++ [2, 0, 0]
      | .cancelled g (.performed (some reason)) => be16 g ++ [2, 1, reason]
      | .cancelled g .unknown => be16 g ++ [3, 0, 0]
      | .foundState state => [state.toByte]
      | .acknowledged removed queued => [byteOf removed, byteOf queued]
      | .badSeq oldest queued => be16 oldest ++ [byteOf queued]
      | .madeNew count => [byteOf count]
      | .linkCounters c => [0] ++ [c.goodFrames, c.badCheck, c.badLength, c.gapAbandon, c.refusalsDropped].flatMap
          fun n => be32 (BitVec.ofNat 32 n)
      | .laneCounters k c => [1, byteOf k.val] ++ [c.sentFrames, c.retries, c.receivedFrames, c.badFrames, c.ignoredFrames,
          c.staleAnswers, c.protocolErrors, c.expiredExchanges, c.resyncs, c.acceptedEvents, c.duplicateEvents,
          c.badEvents, c.disabledEvents, c.waitedEvents, c.discardedEvents].flatMap fun n => be32 (BitVec.ofNat 32 n)
      -- in `ReportsChangeNothing` and `ReadClassReports`
      | .part _ | .classEntry _ | .placementPage .. | .draftPage .. | .slotRecord _ => fields.toBytes pool)) ∧
  -- the body of a notice
  (∀ n : Notice, n.toBody = [0x60, 0] ++ be16 n.seq ++ match n.kind with
    | .moduleJoined k code joins .placed => [0x01, byteOf k.val] ++ be16 code ++ be16 joins ++ [1]
    | .moduleJoined k code joins .pending => [0x01, byteOf k.val] ++ be16 code ++ be16 joins ++ [2]
    | .moduleLeft k code .presenceLost => [0x02, byteOf k.val] ++ be16 code ++ [1]
    | .moduleLeft k code .identityChanged => [0x02, byteOf k.val] ++ be16 code ++ [2]
    | .slotFailed k reason => [0x03, byteOf k.val, (SlotState.failed reason).reasonByte]
    | .placementPending k reason => [0x04, byteOf k.val, (SlotState.pending reason).reasonByte]
    | .placementCommitted g fitted unfit .requested => [0x05] ++ be16 g ++ [byteOf fitted, byteOf unfit, 1]
    | .placementCommitted g fitted unfit .automatic => [0x05] ++ be16 g ++ [byteOf fitted, byteOf unfit, 2]
    | .releaseDone k .confirmed => [0x06, byteOf k.val, 1]
    | .releaseDone k .unconfirmed => [0x06, byteOf k.val, 2]
    | .summary lost => 0x07 :: be16 lost
    | .event number k index g payload => [0x10, byteOf number, byteOf k.val, byteOf index] ++ be16 g
        ++ [byteOf payload.length] ++ payload.flatMap be32)

/-- A head whose code is no request code is answered UNKNOWN_REQUEST, and one whose body length R168 does not admit for its
code BAD_FORMAT; every other head is a request of its code (R150, R168, R171). -/
def Obligations.UnknownRequestAnswered : Prop :=
  ∀ r : HostRequest,
    (decodeRequest r = .unknown ↔ r.code ∉ requestCodes) ∧
    (decodeRequest r = .badFormat ↔ r.code ∈ requestCodes ∧ r.fields.length + 2 ∉ bodyLengths r.code) ∧
    (∀ s : State, s.Offers r →
      (r.code ∉ requestCodes → exec .unknownRequest s = .next (s.replied r .unknownRequest .none).transmit) ∧
      (r.code ∈ requestCodes → r.fields.length + 2 ∉ bodyLengths r.code →
        exec .unknownRequest s = .next (s.replied r .badFormat .none).transmit))

/-- The fields of each request body, read where the table of R168 puts them, high byte first (R167, R168). -/
def Obligations.RequestFields : Prop :=
  ∀ (tag a b c d e f g h i j k : Byte) (ws : List Word),
    decodeRequest ⟨0x01, tag, [a]⟩ = .queryPart ∧
    decodeRequest ⟨0x02, tag, [a, b, c, d, e, f, g, h, i, j]⟩ =
      .setParameters ⟨a.toNat, b.toNat * 256 + c.toNat, d.toNat * 256 + e.toNat, f.toNat, g.toNat, h.toNat, i.toNat,
        j.toNat⟩ ∧
    decodeRequest ⟨0x03, tag, [a]⟩ = .readParameters ∧
    decodeRequest ⟨0x04, tag, [a]⟩ = .restart a.toNat ∧
    decodeRequest ⟨0x08, tag, [a, b, c, d, e, f, g, h, i, j, k]⟩ =
      .defineClass ⟨a.toNat * 256 + b.toNat, c.toNat, d.toNat * 256 + e.toNat, f.toNat, g.toNat, h.toNat, i.toNat,
        j.toNat * 256 + k.toNat⟩ ∧
    decodeRequest ⟨0x09, tag, [a, b]⟩ = .dropClass (a.toNat * 256 + b.toNat) ∧
    decodeRequest ⟨0x0A, tag, [a]⟩ = .readClass a.toNat ∧
    decodeRequest ⟨0x0C, tag, [a]⟩ = .readPlacement a.toNat ∧
    decodeRequest ⟨0x0D, tag, [a]⟩ = .readDraft a.toNat ∧
    decodeRequest ⟨0x0E, tag, [a, b]⟩ = .commitPlacement (a.toNat * 256 + b.toNat) ∧
    decodeRequest ⟨0x10, tag, [a]⟩ = .readSlot a.toNat ∧
    decodeRequest ⟨0x11, tag, [a]⟩ = .resetSlot a.toNat ∧
    decodeRequest ⟨0x12, tag, [a]⟩ = .releaseSlot a.toNat ∧
    decodeRequest ⟨0x14, tag, [a, b, c, d, e]⟩ =
      .accessRead (a.toNat * 256 + b.toNat) (c.toNat * 256 + d.toNat) e.toNat ∧
    (ws.length ≤ 32 →
      decodeRequest ⟨0x15, tag, [a, b, c, d, e] ++ ws.flatMap be32⟩ =
        .accessWrite (a.toNat * 256 + b.toNat) (c.toNat * 256 + d.toNat) e.toNat ws) ∧
    decodeRequest ⟨0x16, tag, [a]⟩ = .cancelAccess a ∧
    decodeRequest ⟨0x18, tag, [a, b]⟩ = .acknowledgeNotices (a.toNat * 256 + b.toNat) ∧
    decodeRequest ⟨0x19, tag, [a, b]⟩ = .resendNotices (a.toNat * 256 + b.toNat) ∧
    decodeRequest ⟨0x1A, tag, [a, b, c, d]⟩ = .setEventEnable a.toNat (b.toNat * 256 + c.toNat) d.toNat ∧
    decodeRequest ⟨0x1B, tag, [a, b, c]⟩ = .readCounters a.toNat b.toNat c.toNat

/-! ## Parameters, reports and Restart -/

/-- Query Part, Read Placement, Read Draft and Read Slot report what stands when they are taken, refuse an index or a slot
number out of range, and change nothing but the two queues of the Host Link (R33, R57, R80, R156). The bytes of the four
replies: Query Part with the part code 0x0516, revision 1 and the six capacities 16, 32, 32, 96, 64 and 192 (R156); a page
with its entries of 11 bytes; the slot record of 25 bytes (R169). -/
def Obligations.ReportsChangeNothing : Prop :=
  ∀ (s : State) (r : HostRequest), s.Offers r →
    (decodeRequest r = .queryPart →
      exec .queryPart s =
        .next (s.replied r .ok (.part
          { generation := s.pe.generation, stamp := s.pe.stamp, joinPolicy := s.params.joinPolicy,
            freeBlocks := ((List.finRange 96).filter fun b => s.pool[b].owner = .free).length,
            transactionsInUse := s.transactions.length })).transmit) ∧
    (∀ start, decodeRequest r = .readPlacement start →
      (start ≤ 191 →
        exec .readPlacement s =
          .next (s.replied r .ok (.placementPage s.pe.generation s.pe.stamp s.pe.placement.length start
            ((s.pe.placement.drop start).take 8))).transmit) ∧
      (191 < start → exec .readPlacement s = .next (s.replied r .badParam .none).transmit)) ∧
    (∀ start, decodeRequest r = .readDraft start →
      (start ≤ 191 →
        let draft := s.draftInputs.draft
        let fitted := (s.members.filter fun m => (windowOf draft m.slot).isSome).length
        exec .readDraft s =
          .next (s.replied r .ok (.draftPage s.pe.stamp fitted (s.members.length - fitted) draft.length start
            ((draft.drop start).take 8))).transmit) ∧
      (191 < start → exec .readDraft s = .next (s.replied r .badParam .none).transmit)) ∧
    (∀ slot, decodeRequest r = .readSlot slot →
      (∀ k : SlotNo, k.val = slot →
        exec .readSlot s =
          .next (s.replied r .ok (.slotRecord
            { slot := k, state := (s.slot k).state, identity := (s.slot k).identity, joinCount := (s.slot k).joinCount,
              failures := (s.slot k).failures,
              transactionsHeld := (s.transactions.filter fun t => t.slot = k).length,
              generation := s.pe.generation, window := windowOf s.pe.placement k })).transmit) ∧
      (16 ≤ slot → exec .readSlot s = .next (s.replied r .badParam .none).transmit)) ∧
    (∀ p : PartReport, (ReplyFields.part p).toBytes s.pool =
      [0x05, 0x16, 1, 16, 32, 32, 96, 64, 192] ++ be16 p.generation ++ be16 p.stamp
        ++ [p.joinPolicy.toByte, byteOf p.freeBlocks, byteOf p.transactionsInUse]) ∧
    (∀ (g t count start : Nat) (page : List Entry), (ReplyFields.placementPage g t count start page).toBytes s.pool =
      be16 g ++ be16 t ++ [byteOf count, byteOf start, byteOf page.length] ++ page.flatMap Entry.toBytes) ∧
    (∀ (t fitted unfit count start : Nat) (page : List Entry),
      (ReplyFields.draftPage t fitted unfit count start page).toBytes s.pool =
        be16 t ++ [byteOf fitted, byteOf unfit, byteOf count, byteOf start, byteOf page.length]
          ++ page.flatMap Entry.toBytes) ∧
    (∀ e : Entry, ∃ flags : Byte,
      e.toBytes =
        (match e.kind with
          | .window _ => (1 : Byte)
          | .heldAnchor => 2
          | .reserve => 3
          | .vacancy => 4
          | .fence => 5) :: flags :: (be16 e.base ++ be16 e.size ++ be16 e.classCode
        ++ (match e.kind with
          | .window k => [byteOf k.val]
          | _ => [0])
        ++ (match e.events with
          | some range => [byteOf range.base, byteOf range.span]
          | none => [0, 0])) ∧
      flags.getLsbD 0 = e.anchored ∧ (flags.getLsbD 1 = true ↔ ∃ k, e.kind = .window k) ∧
      flags.getLsbD 2 = e.events.isSome ∧ ∀ i, 3 ≤ i → flags.getLsbD i = false) ∧
    (∀ p : SlotReport, ∃ flags : Byte,
      (ReplyFields.slotRecord p).toBytes s.pool =
        [byteOf p.slot.val, p.state.stateByte, p.state.reasonByte, flags]
          ++ (match p.identity with
            | some id => be16 id.classCode ++ [byteOf id.eventCount] ++ be16 id.revision
              ++ (match id.serial with
                | some serial => be32 serial
                | none => [0, 0, 0, 0])
            | none => [0, 0, 0, 0, 0, 0, 0, 0, 0])
          ++ be16 p.joinCount ++ [byteOf p.failures, byteOf p.transactionsHeld] ++ be16 p.generation
          ++ (match p.window with
            | some e => be16 e.base ++ be16 e.size
            | none => [0, 0, 0, 0])
          ++ (match p.window.bind Entry.events with
            | some range => [byteOf range.base, byteOf range.span]
            | none => [0, 0]) ∧
      flags.getLsbD 0 = decide (p.state = .draining true) ∧ flags.getLsbD 1 = p.identity.isSome ∧
      flags.getLsbD 2 = (p.identity.bind Identity.serial).isSome ∧ flags.getLsbD 3 = p.window.isSome ∧
      (flags.getLsbD 4 = true ↔ ∃ e, p.window = some e ∧ e.anchored = true) ∧
      flags.getLsbD 5 = (p.window.bind Entry.events).isSome ∧ ∀ i, 6 ≤ i → flags.getLsbD i = false)

/-- Read Parameters replies with OK and the eight values in force, and changes no state; after an accepted Set Parameters
those are the new values (R160). -/
def Obligations.ReadParametersReports : Prop :=
  (∀ (s : State) (r : HostRequest), s.Offers r → decodeRequest r = .readParameters →
    exec .readParameters s = .next (s.replied r .ok (.params s.params)).transmit) ∧
  (∀ (s t : State) (r r' : HostRequest) (p : Params), s.Offers r → decodeRequest r = .setParameters p.fields →
    p.InRange → exec .setParameters s = .next t → t.Offers r' → decodeRequest r' = .readParameters →
    exec .readParameters t = .next (t.replied r' .ok (.params p)).transmit) ∧
  (∀ (s t : State) (r r' : HostRequest) (f : ParamFields), s.Offers r → decodeRequest r = .setParameters f →
    (∀ p : Params, p.InRange → f ≠ p.fields) → exec .setParameters s = .next t → t.Offers r' →
    decodeRequest r' = .readParameters → exec .readParameters t = .next (t.replied r' .ok (.params s.params)).transmit)

/-- An acceptable Set Parameters replaces all eight values as one step, and a different Run Base increments the draft stamp
once; any value out of its range has the whole request refused with BAD_PARAM (R16, R157, R158). -/
def Obligations.SetParametersApplied : Prop :=
  ∀ (s : State) (r : HostRequest) (f : ParamFields), s.Offers r → decodeRequest r = .setParameters f →
    (∀ p : Params, p.InRange → f = p.fields →
      let stamp := if p.runBase = s.params.runBase then s.pe.stamp else nextStamp s.pe.stamp
      exec .setParameters s =
        .next (State.replied { s with params := p, pe := { s.pe with stamp := stamp } } r .ok (.stamp stamp)).transmit) ∧
    ((∀ p : Params, p.InRange → f ≠ p.fields) →
      exec .setParameters s = .next (s.replied r .badParam .none).transmit)

/-- Read Counters reports the link counters or one lane's, clears exactly those when its clear flag is CLEAR, and is
refused with BAD_PARAM for a selector, lane number or clear flag out of range (R161). -/
def Obligations.ReadCountersReports : Prop :=
  ∀ (s : State) (r : HostRequest) (selector lane clear : Nat), s.Offers r →
    decodeRequest r = .readCounters selector lane clear →
    (selector = 0 → clear = 0 →
      exec .readCounters s = .next (s.replied r .ok (.linkCounters s.hli.counters)).transmit) ∧
    (selector = 0 → clear = 1 →
      exec .readCounters s =
        .next (State.replied { s with hli := { s.hli with counters := ⟨0, 0, 0, 0, 0⟩ } } r .ok
          (.linkCounters s.hli.counters)).transmit) ∧
    (∀ k : SlotNo, selector = 1 → k.val = lane → clear = 0 →
      exec .readCounters s = .next (s.replied r .ok (.laneCounters k (s.slot k).lane.counters)).transmit) ∧
    (∀ k : SlotNo, selector = 1 → k.val = lane → clear = 1 →
      exec .readCounters s =
        .next (State.replied
          (s.withLane k { (s.slot k).lane with counters := ⟨0, 0, 0, 0, 0, 0, 0, 0, 0, 0, 0, 0, 0, 0, 0⟩ }) r .ok
          (.laneCounters k (s.slot k).lane.counters)).transmit) ∧
    (1 < clear ∨ 1 < selector ∨ (selector = 1 ∧ 15 < lane) →
      exec .readCounters s = .next (s.replied r .badParam .none).transmit)

/-- Restart answers every transaction ABORTED, lane by lane, empties the placement and the Attention Queue, clears the
catalogue under FULL, settles or empties every slot, clears the counters, and answers last; any other scope is refused
(R14, R82, R118, R141, R162, R163).
Log 17 is the model's reading of the end of a lane frame being sent whose exchange has gone. -/
def Obligations.RestartEffects : Prop :=
  ∀ (s : State) (r : HostRequest) (scope : Nat), s.Offers r → decodeRequest r = .restart scope → s.TagsDistinct →
    (∀ performed : RestartScope, (scope = 0 ∧ performed = .keepCatalogue) ∨ (scope = 1 ∧ performed = .full) →
      let generation := nextGeneration s.pe.generation
      let stamp := nextStamp s.pe.stamp
      let inOrder := (List.finRange 16).flatMap fun k : SlotNo => s.transactions.filter fun t => t.slot = k
      exec .restart s =
        .next (State.transmit
          { s with
            hli := { s.hli with
              requests := s.hli.requests.tail
              replies := s.hli.replies ++ inOrder.map (fun t => t.replyWith .aborted (.generation t.generation))
                ++ [⟨replyCode r.code, r.tag, .ok,
                  .restart performed generation stamp s.transactions.length s.au.nextSeq⟩]
              counters := ⟨0, 0, 0, 0, 0⟩
              sending := s.hli.sending.map fun f =>
                { f with source := match f.source with
                  | .notice _ => .noticeRemoved
                  | source => source } }
            pe :=
              { catalogue := if scope = 1 then [] else s.pe.catalogue
                placement := [], generation := generation, stamp := stamp }
            slots := Vector.ofFn fun k : Fin 16 =>
              { presence := (s.slot k).presence
                state := if (s.slot k).presence then .settling else .empty
                settle := if (s.slot k).presence then some s.params.settleTime else none
                identity := if (s.slot k).presence then (s.slot k).identity else none
                joinCount := (s.slot k).joinCount
                failures := 0
                lane := { (s.slot k).lane.cleared with counters := {} } }
            transactions := []
            pool := Vector.ofFn fun b : Fin 96 =>
              if b ∈ s.transactions.flatMap Transaction.blocks then { s.pool[b] with owner := .free } else s.pool[b]
            au := { s.au with queue := [], summaryDue := false, lostCount := 0 } })) ∧
    (1 < scope → exec .restart s = .next (s.replied r .badParam .none).transmit)

/-! ## The Class Catalogue -/

/-- The five checks of Define Class in their order: the first that fails decides the reply and nothing else changes; a
request that passes them all is answered OK (R4). -/
def Obligations.DefineClassChecks : Prop :=
  ∀ (s : State) (r : HostRequest) (f : ClassFields), s.Offers r → decodeRequest r = .defineClass f →
    let refused (status : Status) : Prop := exec .defineClass s = .next (s.replied r status .none).transmit
    let ranked := ∃ d ∈ s.pe.catalogue, d.rank = f.rank ∧ d.code ≠ f.code
    let known := ∃ d ∈ s.pe.catalogue, d.code = f.code
    let full := ¬known ∧ 32 ≤ s.pe.catalogue.length
    let used := known ∧ s.Carried f.code
    (f.BadParam → refused .badParam) ∧
    (¬f.BadParam → ranked → refused .rankTaken) ∧
    (¬f.BadParam → ¬ranked → full → refused .catalogueFull) ∧
    (¬f.BadParam → ¬ranked → ¬full → f.AnchorConflict s.pe.catalogue → refused .anchorConflict) ∧
    (¬f.BadParam → ¬ranked → ¬full → ¬f.AnchorConflict s.pe.catalogue → used → refused .classInUse) ∧
    (¬f.BadParam → ¬ranked → ¬full → ¬f.AnchorConflict s.pe.catalogue → ¬used →
      ∃ t fields, exec .defineClass s = .next t ∧
        t.hli.replies = s.hli.replies ++ [⟨replyCode r.code, r.tag, .ok, fields⟩])

/-- An accepted Define Class with a new code, under either Join Policy: the entry takes its place in rank order and the draft
stamp counts it; then each slot that waits in UNKNOWN_CLASS for the code is re-judged in ascending order, against what the
re-judging before it has left, to FAILED(SPAN_MISMATCH) or through the join procedure, which under AUTO_COMMIT may commit
the draft or fill a hole that such a commit left; the reply reports the number re-judged and the stamp after all of it
(R5, R7, R42 to R46). Under FILL_ONLY without entries of the class in the Active Placement, each such slot becomes
FAILED(SPAN_MISMATCH) or PENDING(AWAITING_COMMIT) without a new join count, the stamp counts each slot that entered the
participating set, and the layout stays.
Log 17 is the model's reading of the flip of the phase only where an exchange was outstanding. -/
def Obligations.DefineClassAdds : Prop :=
  ∀ (s : State) (r : HostRequest) (f : ClassFields), s.Offers r → decodeRequest r = .defineClass f →
    CatalogueConsistent s.pe.catalogue → ¬f.BadParam →
    (∀ d ∈ s.pe.catalogue, d.code ≠ f.code ∧ d.rank ≠ f.rank) → s.pe.catalogue.length < 32 →
    ¬f.AnchorConflict s.pe.catalogue →
    let waits (k : SlotNo) : Bool :=
      decide ((s.slot k).state = .unknownClass) && decide ((s.slot k).identity.map Identity.classCode = some f.code)
    let waiting := (List.finRange 16).filter waits
    let admitted (k : SlotNo) : Bool := waits k && decide (((s.slot k).identity.map Identity.eventCount).getD 0 ≤ f.span)
    let rejudged (u : State) (k : SlotNo) : State :=
      if admitted k then u.join k
      else
        { u.withSlot k { s.slot k with state := .failed .spanMismatch, lane := (s.slot k).lane.abandoned } with
          au := u.au.post (.slotFailed k .spanMismatch) }
    ∃ catalogue : List ClassEntry,
      catalogue.Perm (f.entry :: s.pe.catalogue) ∧ CatalogueConsistent catalogue ∧
      (let added : State := { s with pe := { s.pe with catalogue := catalogue, stamp := nextStamp s.pe.stamp } }
        let judged := waiting.foldl rejudged added
        exec .defineClass s =
          .next (judged.replied r .ok (.defined .created waiting.length judged.pe.stamp)).transmit) ∧
      (s.params.joinPolicy = .fillOnly → (∀ e ∈ s.pe.placement, e.classCode ≠ f.code) →
        let stamp := ((List.finRange 16).filter admitted).foldl (fun n _ => nextStamp n) (nextStamp s.pe.stamp)
        let notices := waiting.flatMap fun k =>
          if admitted k then
            [NoticeKind.moduleJoined k f.code (s.slot k).joinCount .pending, .placementPending k .awaitingCommit]
          else [.slotFailed k .spanMismatch]
        exec .defineClass s =
          .next (State.transmit (State.replied
            { s with
              pe := { s.pe with catalogue := catalogue, stamp := stamp }
              slots := Vector.ofFn fun k : Fin 16 =>
                if waits k then
                  { s.slot k with
                    state := if admitted k then .pending .awaitingCommit else .failed .spanMismatch
                    lane := if admitted k then (s.slot k).lane else (s.slot k).lane.abandoned }
                else s.slot k
              au := notices.foldl AttentionUnit.post s.au }
            r .ok (.defined .created waiting.length stamp))))

/-- An accepted redefinition replaces the entry of its class, removes the unused entries of the class from the Active
Placement, increments the draft stamp once, and re-judges no slot (R6). -/
def Obligations.DefineClassRedefines : Prop :=
  ∀ (s : State) (r : HostRequest) (f : ClassFields), s.Offers r → decodeRequest r = .defineClass f → ¬f.BadParam →
    (∀ d ∈ s.pe.catalogue, d.rank = f.rank → d.code = f.code) → (∃ d ∈ s.pe.catalogue, d.code = f.code) →
    ¬f.AnchorConflict s.pe.catalogue → ¬s.Carried f.code → CatalogueConsistent s.pe.catalogue →
    ∃ t, exec .defineClass s = .next t.transmit ∧
      t = State.replied
        { s with pe := { s.pe with
            catalogue := t.pe.catalogue
            placement := s.pe.placement.filter fun e => e.kind.isWindow || e.classCode != f.code
            stamp := nextStamp s.pe.stamp } }
        r .ok (.defined .redefined 0 (nextStamp s.pe.stamp)) ∧
      t.pe.catalogue.Perm (f.entry :: s.pe.catalogue.filter fun d => d.code != f.code) ∧
      CatalogueConsistent t.pe.catalogue

/-- The three checks of Drop Class in their order, and what an accepted one removes (R8, R9). -/
def Obligations.DropClassEffects : Prop :=
  ∀ (s : State) (r : HostRequest) (code : Nat), s.Offers r → decodeRequest r = .dropClass code →
    let refused (status : Status) : Prop := exec .dropClass s = .next (s.replied r status .none).transmit
    let bad := code = 0 ∨ code = 0xFFFF
    let known := ∃ d ∈ s.pe.catalogue, d.code = code
    (bad → refused .badParam) ∧
    (¬bad → ¬known → refused .noClass) ∧
    (¬bad → known → s.Carried code → refused .classInUse) ∧
    (¬bad → known → ¬s.Carried code →
      exec .dropClass s =
        .next (State.replied
          { s with pe := { s.pe with
              catalogue := s.pe.catalogue.filter fun d => d.code != code
              placement := s.pe.placement.filter fun e => e.kind.isWindow || e.classCode != code
              stamp := nextStamp s.pe.stamp } }
          r .ok (.stamp (nextStamp s.pe.stamp))).transmit)

/-- Read Class reports the entry of a rank as it stands, answers NO_CLASS where no entry holds the rank and BAD_PARAM above
31, and changes no state; the reply carries the seven fields and not the event alignment (R10). -/
def Obligations.ReadClassReports : Prop :=
  ∀ (s : State) (r : HostRequest) (rank : Nat), s.Offers r → decodeRequest r = .readClass rank →
    (31 < rank → exec .readClass s = .next (s.replied r .badParam .none).transmit) ∧
    (rank ≤ 31 → (∀ c ∈ s.pe.catalogue, c.rank ≠ rank) →
      exec .readClass s = .next (s.replied r .noClass .none).transmit) ∧
    (rank ≤ 31 → CatalogueConsistent s.pe.catalogue → ∀ c ∈ s.pe.catalogue, c.rank = rank →
      exec .readClass s = .next (s.replied r .ok (.classEntry c)).transmit ∧
      (ReplyFields.classEntry c).toBytes s.pool =
        be16 c.code ++ [byteOf c.rank] ++ be16 c.size ++ [byteOf c.exponent, byteOf c.span, byteOf c.reserve]
          ++ (match c.anchor with
            | none => [0, 0, 0]
            | some b => 1 :: be16 b))

/-! ## Packing -/

/-- Where an item goes. Its window: the lowest base that is a multiple of its alignment, is not below the cursor, and gives an
extent clear of every anchor region; it fits exactly when that extent ends within window space (R23, R27). Its event range:
the first multiple of the event alignment, the smallest power of two not below the span, from the event cursor; it fits
exactly when it ends within event space, and a span of 0 takes none (R2, R25). A module and a reserve take both, window first,
or neither; the anchor holder stands at its anchor base, a held anchor where no slot holds it, takes an event range and leaves
the window cursor; a fence takes one word and no event range. Each gives its entry its kind, extent, class code, anchored flag
and event range, and moves the cursors past what it took (R21, R22, R24, R26, R27). -/
def Obligations.PlacesFound : Prop :=
  (∀ (regions : List Region) (cursor size exponent base : Nat),
    findBase regions cursor size (2 ^ exponent) = some base ↔
      base + size ≤ 65536 ∧
      IsLeast { b | cursor ≤ b ∧ 2 ^ exponent ∣ b ∧ ∀ g ∈ regions, Region.Disjoint ⟨b, size⟩ g } base) ∧
  (∀ span, 1 ≤ span → span ≤ 16 → IsLeast { m | (∃ i, m = 2 ^ i) ∧ span ≤ m } (eventAlignment span)) ∧
  eventAlignment 0 = 1 ∧
  (∀ cursor, findEvents cursor 0 = some (none, cursor)) ∧
  (∀ cursor span, 1 ≤ span → span ≤ 16 →
    (∀ base, IsLeast { b | cursor ≤ b ∧ eventAlignment span ∣ b } base →
      (base + span ≤ 256 → findEvents cursor span = some (some ⟨base, span⟩, base + span)) ∧
      (256 < base + span → findEvents cursor span = none))) ∧
  (∀ (regions : List Region) (item : Item) (cur next : Cursors) (e : Entry),
    let run (c : ClassEntry) (kind : EntryKind) : Prop := ∃ base events cursor,
      findBase regions cur.window c.size (2 ^ c.exponent) = some base ∧
      findEvents cur.event c.span = some (events, cursor) ∧
      e = ⟨kind, base, c.size, c.code, false, events⟩ ∧ next = ⟨base + c.size, cursor⟩
    placeItem regions item cur = some (e, next) ↔
      match item with
      | .anchorHolder c base slot => ∃ events cursor,
        findEvents cur.event c.span = some (events, cursor) ∧
        e = ⟨match slot with
          | some k => .window k
          | none => .heldAnchor, base, c.size, c.code, true, events⟩ ∧ next = ⟨cur.window, cursor⟩
      | .module c k => run c (.window k)
      | .reserve c => run c .reserve
      | .fence c => ∃ base, findBase regions cur.window 1 1 = some base ∧
        e = ⟨.fence, base, 1, c.code, false, none⟩ ∧ next = ⟨base + 1, cur.event⟩)

/-- The inputs of a draft are the catalogue as it stands, the Run Base in force, and the participating set: exactly the slots
that are PENDING, PLACED or DRAINING, in ascending slot number, each with the class code of its identity (R15 to R17).
PLACED and DRAINING slots hold a window (R38), and a slot's window among entries is the first WINDOW that names it. The
draft is, in ascending base order, what the packing of the walk lays out from the window cursor at Run Base and the event
cursor at 0, around the anchor regions of every anchored class of the catalogue (R18, R22, R31). The packing takes the
groups in rank order, and in a group the anchor holder, which is the lowest-numbered participating slot of an anchored
class or a placeholder, then the other slots in ascending order, the reserves, and the fence where there is a run item
(R19, R20, R27). It lays out items one after another and stops at the first that does not fit; no cursor moves backwards
or passes its bound (R22, R26, R28). -/
def Obligations.PackingWalks : Prop :=
  (∀ s : State,
    s.draftInputs.catalogue = s.pe.catalogue ∧ s.draftInputs.runBase = s.params.runBase ∧
    s.draftInputs.members = s.members ∧ s.members.Pairwise (fun a b => a.slot < b.slot) ∧
    ∀ (k : SlotNo) (c : Nat), ⟨k, c⟩ ∈ s.members ↔
      ((∃ reason, (s.slot k).state = .pending reason) ∨ (s.slot k).state = .placed ∨
        ∃ haltSent, (s.slot k).state = .draining haltSent) ∧ (s.slot k).classCode = c) ∧
  (∀ sl : Slot, sl.classCode = match sl.identity with
    | some id => id.classCode
    | none => 0) ∧
  (∀ st : SlotState,
    (st.holdsWindow = true ↔ st = .placed ∨ ∃ haltSent, st = .draining haltSent) ∧
    (st.participates = true ↔ (∃ reason, st = .pending reason) ∨ st = .placed ∨ ∃ haltSent, st = .draining haltSent)) ∧
  (∀ kind : EntryKind, kind.isWindow = true ↔ ∃ k, kind = .window k) ∧
  (∀ (entries : List Entry) (k : SlotNo) (e : Entry), windowOf entries k = some e ↔
    ∃ before after, entries = before ++ e :: after ∧ e.kind = .window k ∧ ∀ d ∈ before, d.kind ≠ .window k) ∧
  (∀ inputs : DraftInputs,
    let regions : List Region := inputs.catalogue.filterMap fun c => c.anchor.map fun b => ⟨b, c.size⟩
    inputs.draft.Perm (packItems regions (walkItems inputs) ⟨inputs.runBase, 0⟩) ∧
    inputs.draft.Pairwise fun a b => a.base ≤ b.base) ∧
  (∀ inputs : DraftInputs, walkItems inputs = (inputs.catalogue.map (groupItems inputs.members)).flatten) ∧
  (∀ (regions : List Region) (items : List Item) (cur : Cursors),
    ∃ placed rest last, items = placed ++ rest ∧ laidOut regions placed cur (packItems regions items cur) last ∧
      ∀ item tail, rest = item :: tail → placeItem regions item last = none) ∧
  (∀ (regions : List Region) (item : Item) (cur next : Cursors) (e : Entry),
    placeItem regions item cur = some (e, next) →
      cur.window ≤ next.window ∧ cur.event ≤ next.event ∧
      (cur.window ≤ 65536 → next.window ≤ 65536) ∧ (cur.event ≤ 256 → next.event ≤ 256)) ∧
  (∀ (members : List Member) (c : ClassEntry), members.Pairwise (fun a b => a.slot < b.slot) →
    let run (slots : List SlotNo) : List Item :=
      let items := slots.map (Item.module c) ++ List.replicate c.reserve (Item.reserve c)
      if items = [] then [] else items ++ [.fence c]
    ∃ slots : List SlotNo, slots.Pairwise (fun a b => a < b) ∧
      (∀ k, k ∈ slots ↔ ∃ m ∈ members, m.slot = k ∧ m.code = c.code) ∧
      (c.anchor = none → groupItems members c = run slots) ∧
      (∀ base, c.anchor = some base → slots = [] → groupItems members c = .anchorHolder c base none :: run []) ∧
      (∀ base k rest, c.anchor = some base → slots = k :: rest →
        groupItems members c = .anchorHolder c base (some k) :: run rest))


/-- Every draft of a consistent catalogue is a consistent layout: in base order, disjoint in window space and in event
space, at most 176 entries, none of them a VACANCY, each slot laid out at most once and only if it participates (R21, R29,
R31). -/
def Obligations.DraftIsConsistent : Prop :=
  ∀ inputs : DraftInputs, CatalogueConsistent inputs.catalogue → (inputs.members.map Member.slot).Nodup →
    LayoutConsistent inputs.draft ∧
    (∀ e ∈ inputs.draft, e.kind ≠ .vacancy) ∧
    (∀ e ∈ inputs.draft, ∃ c ∈ inputs.catalogue, c.code = e.classCode ∧ (e.anchored = true → c.anchor = some e.base) ∧
      (e.kind = .fence ∨ (e.size = c.size ∧ 2 ^ c.exponent ∣ e.base ∧
        e.events.map EventRange.span = if c.span = 0 then none else some c.span)) ∧
      ∀ k, e.kind = .window k → ⟨k, e.classCode⟩ ∈ inputs.members)

/-! ## Commit, joins, departures and translation -/

/-- A Commit Placement with the current draft stamp installs the draft of the current inputs, changes the participating
slots as the draft lays them out, increments generation and stamp, posts its notices and answers; with any other stamp
it changes nothing (R50, R51). -/
def Obligations.CommitInstallsDraft : Prop :=
  ∀ (s : State) (r : HostRequest) (stamp : Nat), s.Offers r → decodeRequest r = .commitPlacement stamp →
    (stamp ≠ s.pe.stamp →
      exec .commitPlacement s = .next (s.replied r .draftChanged (.stamp s.pe.stamp)).transmit) ∧
    (stamp = s.pe.stamp →
      let draft := s.draftInputs.draft
      let isFitted (k : SlotNo) : Bool := (windowOf draft k).isSome
      let fitted := (s.members.filter fun m => isFitted m.slot).length
      let unfit := s.members.length - fitted
      let generation := nextGeneration s.pe.generation
      let losers := (List.finRange 16).filter fun k : SlotNo => (s.slot k).state.holdsWindow && !isFitted k
      let notices : List NoticeKind :=
        .placementCommitted generation fitted unfit .requested :: losers.map fun k => .placementPending k .noSpace
      exec .commitPlacement s =
        .next (State.replied
          { s with
            pe := { s.pe with placement := draft, generation := generation, stamp := nextStamp s.pe.stamp }
            slots := Vector.ofFn fun k : Fin 16 => (s.slot k).committed (isFitted k)
            au := notices.foldl AttentionUnit.post s.au }
          r .ok (.committed generation (nextStamp s.pe.stamp) fitted unfit)).transmit)

/-- The join procedure: the slot enters the participating set; a hole of its class becomes its window; without one it waits
under FILL_ONLY, and under AUTO_COMMIT it waits unless the draft disturbs nothing and fits it, in which case the draft is
committed (R43 to R46). -/
def Obligations.JoinProcedure : Prop :=
  ∀ (s : State) (k : SlotNo),
    let code := (s.slot k).classCode
    let joins := (s.slot k).joinCount
    let entered : State :=
      { s.withSlot k { s.slot k with state := .pending .awaitingCommit } with
        pe := { s.pe with stamp := nextStamp s.pe.stamp } }
    let waiting : State :=
      { entered with
        au := (s.au.post (.moduleJoined k code joins .pending)).post (.placementPending k .awaitingCommit) }
    let draft := entered.draftInputs.draft
    (∀ hole, findHole s.pe.placement code = some hole →
      s.join k =
        { s.withSlot k { s.slot k with state := .placed } with
          pe := { s.pe with
            placement := s.pe.placement.map fun e => if e = hole then { e with kind := .window k } else e
            stamp := nextStamp s.pe.stamp }
          au := s.au.post (.moduleJoined k code joins .placed) }) ∧
    (findHole s.pe.placement code = none → s.params.joinPolicy = .fillOnly → s.join k = waiting) ∧
    (findHole s.pe.placement code = none → s.params.joinPolicy = .autoCommit →
      ¬(entered.Undisturbed draft ∧ windowOf draft k ≠ none) → s.join k = waiting) ∧
    (findHole s.pe.placement code = none → s.params.joinPolicy = .autoCommit →
      entered.Undisturbed draft → windowOf draft k ≠ none →
      let fitted := (entered.members.filter fun m => (windowOf draft m.slot).isSome).length
      let generation := nextGeneration s.pe.generation
      s.join k =
        { entered with
          pe := { s.pe with
            placement := draft, generation := generation, stamp := nextStamp (nextStamp s.pe.stamp) }
          slots := Vector.ofFn fun j : Fin 16 => (entered.slot j).committed (windowOf draft j).isSome
          au :=
            (s.au.post (.placementCommitted generation fitted (entered.members.length - fitted) .automatic)).post
              (.moduleJoined k code joins .placed) })

/-- The hole a joining slot takes: of its own class, the HELD_ANCHOR first, then the VACANCY of the lowest base, then the
RESERVE of the lowest base; a departure leaves such a hole in place of the window (R42, R48, R49). -/
def Obligations.HolesOfAClass : Prop :=
  (∀ (placement : List Entry) (code : Nat), LayoutConsistent placement →
    let holes (kind : EntryKind) (e : Entry) : Prop := e ∈ placement ∧ e.kind = kind ∧ e.classCode = code
    (∀ e, findHole placement code = some e ↔
      (holes .heldAnchor e ∧ ∀ d, holes .heldAnchor d → e.base ≤ d.base) ∨
      (holes .vacancy e ∧ (∀ d, ¬holes .heldAnchor d) ∧ ∀ d, holes .vacancy d → e.base ≤ d.base) ∨
      (holes .reserve e ∧ (∀ d, ¬holes .heldAnchor d) ∧ (∀ d, ¬holes .vacancy d) ∧
        ∀ d, holes .reserve d → e.base ≤ d.base))) ∧
  (∀ (s : State) (k : SlotNo) (st : SlotState), st.participates = false →
    s.leave k st =
      { s.withSlot k { s.slot k with state := st, lane := { (s.slot k).lane with resyncRequired := false } } with
        pe := s.departed k })

/-- The checks of translation in their order, the fence word of a read, and the slot and offset of an access that passes
(R39, R53, R54). -/
def Obligations.TranslationTable : Prop :=
  ∀ (s : State) (view address count : Nat) (kind : AccessKind), LayoutConsistent s.pe.placement →
    (view ≠ s.pe.generation → s.translate view address count kind = .refused .staleView) ∧
    (view = s.pe.generation →
      ((∀ e ∈ s.pe.placement, ¬(e.base ≤ address ∧ address < e.base + e.size)) →
        s.translate view address count kind = .refused .unmapped) ∧
      (∀ e ∈ s.pe.placement, e.base ≤ address → address < e.base + e.size →
        (e.base + e.size < address + count → s.translate view address count kind = .refused .spanError) ∧
        (address + count ≤ e.base + e.size →
          s.translate view address count kind =
            match e.kind with
            | .fence =>
              match kind with
              | .write => .refused .fenceWrite
              | .read =>
                .fence (BitVec.ofNat 32 (e.classCode * 65536 +
                  (s.pe.placement.filter fun d => d.kind.isWindow && d.classCode == e.classCode).length))
            | .reserve => .refused .reserved
            | .vacancy => .refused .vacant
            | .heldAnchor => .refused .vacant
            | .window k =>
              if ∃ halt, (s.slot k).state = .draining halt then .refused .slotReleasing
              else .window k (address - e.base))))

/-! ## Slots -/

/-- A rise of the presence line, taken in EMPTY, begins a settle period of the Settle Time in force (R61, R62); the expiry
of that period begins a FIRST PROBE with the failure count at 0 (R62, R63, R87).
Log 17 is the model's reading of the flip of the phase only where an exchange was outstanding. -/
def Obligations.SettlingAndProbing : Prop :=
  ∀ (s : State) (k : SlotNo), s.held = false →
    ((s.slot k).state = .empty →
      exec (.presenceRise k) s =
        .next (s.withSlot k
          { s.slot k with
            presence := true, state := .settling, settle := some s.params.settleTime
            lane := { (s.slot k).lane with resyncRequired := false } }).transmit) ∧
    ((s.slot k).state = .settling →
      exec (.settlePeriodExpiry k) s =
        .next (State.transmit ((s.withSlot k
          { s.slot k with
            state := .probing, settle := none, failures := 0
            lane := (s.slot k).lane.abandoned.start (.probe .first) }).laneTransmit k)))

/-- A fall of the presence line in any state but EMPTY ends the slot's tenure as one event: lane, transactions, window,
participation, notice, record (R48, R49, R68, R117).
Log 17 is the model's reading of the end of a frame being sent whose exchange has gone. -/
def Obligations.PresenceLossEndsTenure : Prop :=
  ∀ (s : State) (k : SlotNo), s.held = false → (s.slot k).state ≠ .empty → s.TagsDistinct →
    exec (.presenceLoss k) s =
      .next (State.transmit
        { (s.ended (s.transactions.filter fun t => t.slot = k) fun t => t.tenureReply .moduleGone).withSlot k
            { presence := false, state := .empty, settle := none, identity := none, joinCount := (s.slot k).joinCount,
              failures := 0, lane := (s.slot k).lane.cleared } with
          pe := s.departed k
          au := s.au.post (.moduleLeft k (((s.slot k).identity.map Identity.classCode).getD 0) .presenceLost) })

/-- Reset Slot is refused for a slot number above 15 and in EMPTY and SETTLING; otherwise it ends what the slot holds,
gives up its window and its participation, and begins a new FIRST PROBE; its reply follows those of the transactions it
ended (R63, R70, R71, R93, R117).
Log 17 is the model's reading of the flip of the phase only where an exchange was outstanding. -/
def Obligations.ResetSlotProbes : Prop :=
  ∀ (s : State) (r : HostRequest) (slot : Nat), s.Offers r → decodeRequest r = .resetSlot slot →
    (15 < slot → exec .resetSlot s = .next (s.replied r .badParam .none).transmit) ∧
    (∀ k : SlotNo, k.val = slot →
      ((s.slot k).state = .empty ∨ (s.slot k).state = .settling →
        exec .resetSlot s = .next (s.replied r .slotState .none).transmit) ∧
      ((s.slot k).state ≠ .empty → (s.slot k).state ≠ .settling → s.TagsDistinct →
        let ended := s.ended (s.transactions.filter fun t => t.slot = k) fun t => t.tenureReply .slotReset
        exec .resetSlot s =
          .next (State.transmit (State.laneTransmit
            { (ended.replied r .ok (.slotState (s.slot k).state)).withSlot k
                { s.slot k with
                  state := .probing, settle := none, failures := 0
                  lane := (s.slot k).lane.abandoned.start (.probe .first) } with
              pe := s.departed k } k))))

/-- Release Slot is refused for a slot number above 15 and in every state but PLACED; a PLACED slot enters DRAINING with halt
sent clear, the reply is OK at once, window and stamp stay, and the lane goes on, which begins HALT where it is idle and
its queue empty (R72, R73). -/
def Obligations.ReleaseSlotDrains : Prop :=
  ∀ (s : State) (r : HostRequest) (slot : Nat), s.Offers r → decodeRequest r = .releaseSlot slot →
    (15 < slot → exec .releaseSlot s = .next (s.replied r .badParam .none).transmit) ∧
    (∀ k : SlotNo, k.val = slot →
      let draining (haltSent : Bool) (lane : Lane) : State :=
        (s.replied r .ok .none).withSlot k { s.slot k with state := .draining haltSent, lane := lane }
      let lane := (s.slot k).lane
      ((s.slot k).state ≠ .placed → exec .releaseSlot s = .next (s.replied r .slotState .none).transmit) ∧
      ((s.slot k).state = .placed → lane.exchange = none → lane.resyncRequired = false →
        (∀ t ∈ s.transactions, t.slot ≠ k) →
        exec .releaseSlot s = .next (State.transmit ((draining true (lane.start .halt)).laneTransmit k))) ∧
      ((s.slot k).state = .placed → lane.exchange ≠ none →
        exec .releaseSlot s = .next (State.transmit ((draining false lane).laneTransmit k))) ∧
      ((s.slot k).state = .placed →
        exec .releaseSlot s = .next (State.transmit ((draining false lane).advance k))))

/-! ## The lane engine -/

/-- What a lane does next: an outstanding exchange only waits for the transmitter; a free lane begins the first exchange of
the table of R87 whose condition holds, with its other effects, or none; the transmitter then takes a pending event answer
or the waiting frame (R73, R86, R87, R95, R113). -/
def Obligations.NextExchangeBegins : Prop :=
  ∀ (s : State) (k : SlotNo),
    let sl := s.slot k
    let begun (kind : ExchangeKind) : Lane :=
      { sl.lane with
        exchange := some
          { kind := kind, phase := sl.lane.outboundPhase, sends := 1, frameWaiting := true, timer := none,
            cancelled := false, releaseEnded := false } }
    let queue := s.transactions.filter fun t => t.slot = k
    (∀ kind, sl.lane.start kind = begun kind) ∧
    (sl.lane.exchange ≠ none → s.advance k = s.laneTransmit k) ∧
    (sl.lane.exchange = none → sl.state = .probing →
      s.advance k = (s.withLane k (begun (.probe .first))).laneTransmit k) ∧
    (sl.lane.exchange = none → sl.state ≠ .probing → sl.lane.resyncRequired = true →
      s.advance k =
        (s.withLane k { begun (.probe .resync) with
          counters := { sl.lane.counters with resyncs := bump sl.lane.counters.resyncs } }).laneTransmit k) ∧
    (sl.lane.exchange = none → sl.state ≠ .probing → sl.lane.resyncRequired = false →
      (∀ older t newer, sl.state.participates = true → queue = older ++ t :: newer →
        (∀ u ∈ older, u.state ≠ .waiting) → t.state = .waiting →
        s.advance k =
          State.laneTransmit
            { s.withLane k (begun
                (match t.kind with
                  | .read => .read t.tag t.offset t.count
                  | .write => .write t.tag t.offset t.count)) with
              transactions := s.transactions.map fun u => if u.tag = t.tag then { u with state := .inExchange } else u }
            k) ∧
      (sl.state = .draining false → queue = [] →
        s.advance k = (s.withSlot k { sl with state := .draining true, lane := begun .halt }).laneTransmit k) ∧
      ((sl.state.participates = true → ∀ u ∈ queue, u.state ≠ .waiting) → ¬(sl.state = .draining false ∧ queue = []) →
        s.advance k = s.laneTransmit k))

/-- The frames a lane transmitter takes, and their bytes: nothing while it is busy, a pending event answer first, then the
waiting frame of the exchange, each with its kind code of R172 in the header (PROBE 0x1 to EVWAIT 0x6), a WRITE with the
words of its transaction's blocks (R83, R86, R107, R113, R172). That the answer stays pending, and the frame uncounted,
until it has been sent completely is the model's reading (log 9, 10). -/
def Obligations.LaneTransmitterSends : Prop :=
  ∀ (s : State) (k : SlotNo),
    let l := (s.slot k).lane
    let bytes (code : Nat) (phase : Bool) (argument count : Nat) (ws : List Word) : List Byte :=
      let covered := byteOf (code + if phase then 128 else 0) :: (be16 argument ++ [byteOf count] ++ ws.flatMap be32)
      0xC3 :: covered ++ checkBytes covered
    let sends (x : Exchange) (frame : List Byte) : Prop :=
      s.laneTransmit k =
        s.withLane k { l with
          sending := some ⟨.exchange, s.params.replyTime, frame⟩, exchange := some { x with frameWaiting := false } }
    (l.sending ≠ none → s.laneTransmit k = s) ∧
    (l.sending = none →
      (∀ a, l.eventAnswer = some a →
        s.laneTransmit k =
          s.withLane k { l with
            sending := some ⟨.eventAnswer, s.params.replyTime,
              bytes (if a.accepted then 0x5 else 0x6) a.phase 0 0 []⟩ }) ∧
      (l.eventAnswer = none →
        (l.exchange = none → s.laneTransmit k = s) ∧
        (∀ x, l.exchange = some x →
          (x.frameWaiting = false → s.laneTransmit k = s) ∧
          (x.frameWaiting = true →
            (∀ p, x.kind = .probe p → sends x (bytes 0x1 x.phase 0 0 [])) ∧
            (x.kind = .halt → sends x (bytes 0x4 x.phase 0 0 [])) ∧
            (∀ tag offset count, x.kind = .read tag offset count →
              sends x (bytes 0x2 x.phase offset count [])) ∧
            (∀ tag offset count t, x.kind = .write tag offset count → s.TagsDistinct → t ∈ s.transactions →
              t.tag = tag → sends x (bytes 0x3 x.phase offset count (s.pool.read t.blocks count)))))))

/-- When a lane transmitter finishes a frame, an exchange frame starts the Reply Time timer with the length in force when its
sending began, an event answer is pending no more, the sent-frame counter counts it, and the next waiting frame is taken
(R86, R103). That the counter counts at the completion and that the answer is pending until then are log 9 and 10. -/
def Obligations.LaneFrameSentEffects : Prop :=
  ∀ (s : State) (k : SlotNo) (f : LaneSending), s.held = false → (s.slot k).lane.sending = some f →
    let l := (s.slot k).lane
    let idle : Lane := { l with sending := none, counters := { l.counters with sentFrames := bump l.counters.sentFrames } }
    let sent (l' : Lane) : Prop :=
      exec (.laneFrameSent k) s = .next (State.transmit ((s.withLane k l').laneTransmit k))
    (f.source = .abandoned → sent idle) ∧
    (f.source = .eventAnswer → sent { idle with eventAnswer := none }) ∧
    (f.source = .exchange →
      sent { idle with exchange := l.exchange.map fun x => { x with timer := some f.replyTime } })

/-- The Reply Time timer expires: an exchange not cancelled is sent again while its sends number fewer than 1 plus the Retry
Limit in force, and fails by expiry otherwise; a cancelled one ends (R90, R94). That the retry counts here, and stays counted
if it is never sent, is log 20. -/
def Obligations.ReplyTimeExpiryEffects : Prop :=
  ∀ (s : State) (k : SlotNo) (x : Exchange), s.held = false → (s.slot k).lane.exchange = some x → x.timer ≠ none →
    let l := (s.slot k).lane
    let expired : State :=
      s.withLane k { l with counters := { l.counters with expiredExchanges := bump l.counters.expiredExchanges } }
    (x.cancelled = false → x.sends < 1 + s.params.retryLimit →
      exec (.replyTimeExpiry k) s =
        .next (State.transmit ((s.withLane k { l with
          exchange := some { x with sends := x.sends + 1, frameWaiting := true, timer := none }
          counters := { l.counters with retries := bump l.counters.retries } }).laneTransmit k))) ∧
    (x.cancelled = false → 1 + s.params.retryLimit ≤ x.sends →
      exec (.replyTimeExpiry k) s = .next (State.transmit ((expired.failExchange k x .laneTimeout).advance k))) ∧
    (x.cancelled = true →
      exec (.replyTimeExpiry k) s = .next (State.transmit ((expired.endCancelledExchange k x).advance k)))

/-- What the failure of an exchange does, by its kind: an access ends its transaction and counts; a resync PROBE counts; the
count below Fault Threshold puts the lane into resync, at it the slot fails with what it holds; a FIRST PROBE fails the
slot; a HALT ends its release UNCONFIRMED, or, its release ended by a commit, puts the lane into resync. A cancelled
exchange ends with its transaction answered CANCELLED and UNKNOWN, in resync, and uncounted (R74, R75, R77, R92, R94, R96,
R116, R117, R123). -/
def Obligations.ExchangeFailureEffects : Prop :=
  ∀ (s : State) (k : SlotNo) (x : Exchange) (status : Status), s.TagsDistinct →
    let sl := s.slot k
    let freed : Lane := sl.lane.freed (!sl.lane.outboundPhase)
    let queue (u : State) : List Transaction := u.transactions.filter fun t => t.slot = k
    let counted (u : State) : State :=
      if sl.failures + 1 < s.params.faultThreshold then
        u.withSlot k { sl with failures := sl.failures + 1, lane := { freed with resyncRequired := true } }
      else
        { (u.ended (queue u) fun t => t.tenureReply .laneFault).withSlot k
            { sl with
              failures := sl.failures + 1, state := .failed .laneFault, lane := { freed with resyncRequired := false } } with
          pe := s.departed k
          au := s.au.post (.slotFailed k .laneFault) }
    (∀ t ∈ s.transactions, x.kind = t.exchangeKind →
      s.failExchange k x status = counted (s.ended [t] fun t => t.replyWith status (.generation t.generation))) ∧
    (x.kind = .probe .resync → s.failExchange k x status = counted s) ∧
    (x.kind = .probe .first →
      s.failExchange k x status =
        { s.withSlot k { sl with state := .failed .noIdent, lane := { freed with resyncRequired := false } } with
          pe := s.departed k
          au := s.au.post (.slotFailed k .noIdent) }) ∧
    (x.kind = .halt → x.releaseEnded = false →
      s.failExchange k x status =
        { s.withSlot k { sl with state := .released, lane := { freed with resyncRequired := false } } with
          pe := s.departed k
          au := s.au.post (.releaseDone k .unconfirmed) }) ∧
    (x.kind = .halt → x.releaseEnded = true →
      s.failExchange k x status = s.withLane k { freed with resyncRequired := true }) ∧
    (∀ t ∈ s.transactions, x.kind = t.exchangeKind →
      s.endCancelledExchange k x =
        (s.ended [t] fun t => t.replyWith .cancelled (.cancelled t.generation .unknown)).withLane k
          { freed with resyncRequired := true })

/-! ## Frames from a module -/

/-- The lane receiver delimits frames byte by byte; a word count above 32 and a silence inside a frame end the frame, which
counts as ignored in EMPTY and SETTLING and as bad in any other state. A whole frame, whatever its bytes, whose word count is
at most 32 and announces its length is judged once its last byte has been received, and the lane goes on (R84, R87, R172).
That a low stop bit does not stop a lane byte either is log 1. -/
def Obligations.LaneBytesDelimited : Prop :=
  (∀ (s : State) (k : SlotNo) (line : LineByte), s.held = false → line.start = false →
    let b := byteOnLine line
    let l := (s.slot k).lane
    let counters : LaneCounters :=
      if (s.slot k).state = .empty ∨ (s.slot k).state = .settling then
        { l.counters with ignoredFrames := bump l.counters.ignoredFrames }
      else { l.counters with badFrames := bump l.counters.badFrames }
    let lost : State := s.withLane k { l with receiver := .between, counters := counters }
    (l.receiver = .between → b ≠ 0xC3 → exec (.laneByteReceived k line) s = .next s.transmit) ∧
    (l.receiver = .between → b = 0xC3 →
      exec (.laneByteReceived k line) s = .next (s.withLane k { l with receiver := .inside [] }).transmit) ∧
    (∀ received, l.receiver = .inside received →
      exec (.laneSilenceTimeout k) s = .next lost.transmit ∧
      (received.length < 3 →
        exec (.laneByteReceived k line) s = .next (s.withLane k { l with receiver := .inside (received ++ [b]) }).transmit) ∧
      (received.length = 3 → 32 < b.toNat → exec (.laneByteReceived k line) s = .next lost.transmit))) ∧
  (∀ (s : State) (k : SlotNo) (header hi lo count : Byte) (rest : List Byte) (lines : List LineByte),
    s.held = false → (∀ line ∈ lines, line.start = false) →
    (s.slot k).lane.receiver = .between → count.toNat ≤ 32 → rest.length = 4 * count.toNat + 2 →
    let body := [header, hi, lo, count] ++ rest
    lines.map byteOnLine = 0xC3 :: body →
    runAll (lines.map (Instr.laneByteReceived k)) s =
      .next (State.transmit ((s.transmit.judgeFrame k body).advance k)))


/-- The frames that R84 calls good, and no others: the bytes after the start byte are read as a frame exactly when they are
the layout of R172 of that frame, with a kind code of the module's five in bits 3 to 0 of the header, bits 6 to 4 at 0, the
phase in bit 7, a word count its kind admits, as many payload words, and the check over all of it. A wrong check, another
length, other header bits, a kind of the part's and a wrong word count are bad (R83, R84, R172). So a frame of a module's kind
is read back from its bytes as it was, with every field. -/
def Obligations.LaneFrameRoundTrip : Prop :=
  (∀ f : LaneFrame, f.kind ∈ [LaneKind.ident, .data, .done, .refuse, .event] → f.argument < 65536 →
    f.payload.length = f.count → f.kind.admitsCount f.count = true →
    f.toBytes.head? = some 0xC3 ∧ parseLaneFrame f.toBytes.tail = some f) ∧
  (∀ (received : List Byte) (f : LaneFrame),
    let covered (code : Nat) : List Byte :=
      byteOf (code + if f.phase then 128 else 0) :: (be16 f.argument ++ [byteOf f.count] ++ f.payload.flatMap be32)
    parseLaneFrame received = some f ↔
      f.argument < 65536 ∧ f.payload.length = f.count ∧
      ∃ code, received = covered code ++ checkBytes (covered code) ∧
        ((f.kind = .ident ∧ code = 0x9 ∧ (f.count = 2 ∨ f.count = 3)) ∨
          (f.kind = .data ∧ code = 0xA ∧ 1 ≤ f.count ∧ f.count ≤ 32) ∨
          (f.kind = .done ∧ code = 0xB ∧ f.count = 0) ∨
          (f.kind = .refuse ∧ code = 0xC ∧ f.count = 0) ∨
          (f.kind = .event ∧ code = 0xD ∧ f.count ≤ 4)))

/-- A complete frame is unjudged in EMPTY and SETTLING; otherwise a frame that R84 calls bad is counted and has no other
effect; an answer of no use, because no exchange is outstanding, because it is an IDENT to no PROBE, or because its phase
is another, is stale; an answer of the right phase and the wrong kind is a protocol error and ends the exchange; a good EVENT
counts as received and is judged as an event (R84, R89, R94, R97, R103). That the wrong answer to a cancelled exchange counts
as an expired exchange too is the model's reading of R94 against the row of R103 (log 19). -/
def Obligations.AnswersJudged : Prop :=
  ∀ (s : State) (k : SlotNo) (received : List Byte),
    let sl := s.slot k
    let counting (c : LaneCounters) : State := s.withLane k { sl.lane with counters := c }
    let c := sl.lane.counters
    (sl.state = .empty ∨ sl.state = .settling →
      s.judgeFrame k received = counting { c with ignoredFrames := bump c.ignoredFrames }) ∧
    (sl.state ≠ .empty → sl.state ≠ .settling →
      (parseLaneFrame received = none → s.judgeFrame k received = counting { c with badFrames := bump c.badFrames }) ∧
      (∀ f, parseLaneFrame received = some f → f.kind = .event →
        s.judgeFrame k received =
          (counting { c with receivedFrames := bump c.receivedFrames }).judgeEvent k f) ∧
      (∀ f, parseLaneFrame received = some f → f.kind ≠ .event →
        let good : LaneCounters := { c with receivedFrames := bump c.receivedFrames }
        let stale : State := counting { good with staleAnswers := bump c.staleAnswers }
        let wrong : State := counting { good with protocolErrors := bump c.protocolErrors }
        (sl.lane.exchange = none → s.judgeFrame k received = stale) ∧
        (∀ x, sl.lane.exchange = some x →
          let matched := (f.kind = .ident ∧ ∃ p, x.kind = .probe p) ∨
            (f.kind = .refuse ∧ ∃ tag, x.kind.tag? = some tag) ∨
            (f.kind = .data ∧ ∃ tag offset, x.kind = .read tag offset f.count) ∨
            (f.kind = .done ∧ (x.kind = .halt ∨ ∃ tag offset count, x.kind = .write tag offset count))
          (f.kind = .ident → (∀ p, x.kind ≠ .probe p) → s.judgeFrame k received = stale) ∧
          (f.phase ≠ x.phase → s.judgeFrame k received = stale) ∧
          (f.phase = x.phase → ¬(f.kind = .ident ∧ ∀ p, x.kind ≠ .probe p) → ¬matched →
            (x.cancelled = false → s.judgeFrame k received = wrong.failExchange k x .protocolError) ∧
            (x.cancelled = true →
              s.judgeFrame k received =
                (counting { good with
                  protocolErrors := bump c.protocolErrors
                  expiredExchanges := bump c.expiredExchanges }).endCancelledExchange k x)) ∧
          (f.phase = x.phase → matched →
            s.judgeFrame k received = (counting good).matchedAnswer k x f))))

/-- A matching answer to a READ or WRITE ends its transaction: DATA passes its words with the blocks to the reply, DONE and
REFUSE free the blocks, and a cancelled exchange is answered CANCELLED and PERFORMED without keeping data; the failure
count is 0 and the phase flips. A DONE to a HALT ends the release CONFIRMED, or, with the release ended by a commit, asks
for a resync (R74, R75, R88, R89, R94, R107, R115, R119, R123). The exchange of a transaction is the READ or the WRITE of
its tag, offset and count (R113). -/
def Obligations.MatchingAnswersEnd : Prop :=
  (∀ t : Transaction, t.exchangeKind = match t.kind with
    | .read => .read t.tag t.offset t.count
    | .write => .write t.tag t.offset t.count) ∧
  (∀ kind : ExchangeKind, kind.tag? = match kind with
    | .read tag _ _ => some tag
    | .write tag _ _ => some tag
    | .probe _ => none
    | .halt => none) ∧
  ∀ (s : State) (k : SlotNo) (x : Exchange) (f : LaneFrame), s.TagsDistinct →
    let sl := s.slot k
    let answered : Slot := { sl with failures := 0, lane := sl.lane.freed (!sl.lane.outboundPhase) }
    (∀ t ∈ s.transactions, x.kind = t.exchangeKind →
      let without (u : State) (status : Status) (fields : ReplyFields) : State :=
        (u.ended [t] fun t => t.replyWith status fields).withSlot k answered
      (x.cancelled = true →
        s.matchedAnswer k x f =
          without s .cancelled (.cancelled t.generation
            (.performed (if f.kind = .refuse then some (byteOf f.argument) else none)))) ∧
      (x.cancelled = false → f.kind = .refuse →
        s.matchedAnswer k x f = without s .moduleRefused (.moduleRefused t.generation (byteOf f.argument))) ∧
      (x.cancelled = false → f.kind = .done → t.kind = .write →
        s.matchedAnswer k x f = without s .ok (.generation t.generation)) ∧
      (x.cancelled = false → f.kind = .data → t.kind = .read →
        s.matchedAnswer k x f =
          { (s.withSlot k answered) with
            transactions := s.transactions.filter fun u => u != t
            pool := (s.pool.store t.blocks f.payload).setOwner t.blocks .reply
            hli := { s.hli with
              replies := s.hli.replies ++ [t.replyWith .ok (.data t.generation t.count t.blocks)] } })) ∧
    (x.kind = .halt → x.releaseEnded = false →
      s.matchedAnswer k x f =
        { s.withSlot k { answered with state := .released, lane := { answered.lane with resyncRequired := false } } with
          pe := s.departed k
          au := s.au.post (.releaseDone k .confirmed) }) ∧
    (x.kind = .halt → x.releaseEnded = true →
      s.matchedAnswer k x f = s.withSlot k { answered with lane := { answered.lane with resyncRequired := true } })

/-- An IDENT that ends a probe: both phases and the failure count are 0. After a FIRST PROBE the identity is recorded, the
join counted, and the slot becomes UNKNOWN_CLASS, FAILED(SPAN_MISMATCH), or joins. After a resync PROBE the same class code
and event count confirm the identity, and any other ends the old tenure before the new identity is judged as a new join
(R11, R60, R64, R77, R79, R88, R95, R117). -/
def Obligations.IdentJudged : Prop :=
  ∀ (s : State) (k : SlotNo) (x : Exchange) (f : LaneFrame),
    let sl := s.slot k
    let id : Identity :=
      { classCode := (f.payload.getD 0 0).toNat / 65536, eventCount := (f.payload.getD 0 0).toNat % 256,
        revision := (f.payload.getD 1 0).toNat % 65536, serial := f.payload[2]? }
    let lane : Lane := { sl.lane.freed false with lastEventPhase := false }
    let joining : Slot := { sl with failures := 0, identity := some id, joinCount := nextJoinCount sl.joinCount, lane := lane }
    let judged (u : State) (joining : Slot) : State :=
      let lost : Lane := { joining.lane with resyncRequired := false }
      match s.pe.catalogue.find? fun c => c.code = id.classCode with
      | none => u.withSlot k { joining with state := .unknownClass, lane := lost }
      | some c =>
        if c.span < id.eventCount then
          { u.withSlot k { joining with state := .failed .spanMismatch, lane := lost } with
            au := u.au.post (.slotFailed k .spanMismatch) }
        else (u.withSlot k joining).join k
    (x.kind = .probe .first → sl.state = .probing → s.matchedAnswer k x f = judged s joining) ∧
    (∀ old, x.kind = .probe .resync → sl.state.participates = true → sl.identity = some old →
      let clear : Lane := { lane with resyncRequired := false }
      (old.classCode = id.classCode → old.eventCount = id.eventCount →
        s.matchedAnswer k x f = s.withSlot k { sl with failures := 0, identity := some id, lane := clear }) ∧
      (¬(old.classCode = id.classCode ∧ old.eventCount = id.eventCount) → s.TagsDistinct →
        s.matchedAnswer k x f =
          judged
            { s.ended (s.transactions.filter fun t => t.slot = k) (fun t => t.tenureReply .moduleGone) with
              pe := s.departed k
              au := s.au.post (.moduleLeft k old.classCode .identityChanged) }
            { joining with state := .probing, lane := clear }))

/-- A good EVENT, judged by slot and lane, then by its phase, its local index, the Event Enable map and the room in the
Attention Queue: discarded, declined with EVWAIT, or disposed of with EVACK, each with its counter, and queued as a notice
exactly when it is accepted (R55, R97 to R100, R129, R138). -/
def Obligations.EventsJudged : Prop :=
  ∀ (s : State) (k : SlotNo) (f : LaneFrame),
    let sl := s.slot k
    let c := sl.lane.counters
    let discards := sl.state = .probing ∨ sl.state = .released ∨ sl.state = .draining true ∨ sl.state.isFailed = true ∨
      sl.lane.resyncRequired = true ∨ sl.lane.eventAnswer ≠ none ∨
      ∃ x p, sl.lane.exchange = some x ∧ x.kind = .probe p
    let takes := sl.state = .placed ∨ sl.state = .draining false
    let evwait : State := s.withLane k { sl.lane with
      eventAnswer := some ⟨false, f.phase⟩, counters := { c with waitedEvents := bump c.waitedEvents } }
    let evack (counters : LaneCounters) : State := s.withLane k { sl.lane with
      eventAnswer := some ⟨true, f.phase⟩, lastEventPhase := f.phase, counters := counters }
    (discards →
      s.judgeEvent k f =
        s.withLane k { sl.lane with counters := { c with discardedEvents := bump c.discardedEvents } }) ∧
    (¬discards → sl.state.participates = true ∨ sl.state = .unknownClass → ¬takes → s.judgeEvent k f = evwait) ∧
    (¬discards → takes → f.phase = sl.lane.lastEventPhase →
      s.judgeEvent k f = evack { c with duplicateEvents := bump c.duplicateEvents }) ∧
    (∀ cl, ¬discards → takes → f.phase ≠ sl.lane.lastEventPhase →
      s.pe.catalogue.find? (fun d => d.code = sl.classCode) = some cl →
      (cl.span ≤ f.argument → s.judgeEvent k f = evack { c with badEvents := bump c.badEvents }) ∧
      (∀ e range (number : Fin 256), f.argument < cl.span → windowOf s.pe.placement k = some e → e.events = some range →
        number.val = range.base + f.argument →
        (s.au.enabled[number] = false →
          s.judgeEvent k f = evack { c with disabledEvents := bump c.disabledEvents }) ∧
        (s.au.enabled[number] = true → s.au.queue.length ≤ 55 → s.au.eventCount < 56 →
          s.judgeEvent k f =
            { evack { c with acceptedEvents := bump c.acceptedEvents } with
              au := { s.au with
                queue := s.au.queue ++
                  [⟨s.au.nextSeq, .event number.val k f.argument s.pe.generation f.payload, .fresh⟩]
                nextSeq := nextSequence s.au.nextSeq } }) ∧
        (s.au.enabled[number] = true → 55 < s.au.queue.length ∨ 56 ≤ s.au.eventCount → s.judgeEvent k f = evwait)))

/-! ## Accesses -/

/-- An access that is not accepted: refused for its own fields, at translation, or for capacity, in the order of R108, R109
and R110, or answered at once with a fence word; nothing but the Host Link's queues changes, and the reply carries the
generation when the access was taken (R108 to R110, R119). -/
def Obligations.AccessRefusals : Prop :=
  ∀ (s : State) (r : HostRequest), s.Offers r →
    (∀ view address count, decodeRequest r = .accessRead view address count → count = 0 ∨ 32 < count →
      exec .accessRead s = .next (s.replied r .badParam (.generation s.pe.generation)).transmit) ∧
    (∀ view address count data, decodeRequest r = .accessWrite view address count data → count = 0 ∨ 32 < count →
      exec .accessWrite s = .next (s.replied r .badParam (.generation s.pe.generation)).transmit) ∧
    (∀ view address count data, decodeRequest r = .accessWrite view address count data → 1 ≤ count → count ≤ 32 →
      data.length ≠ count →
      exec .accessWrite s = .next (s.replied r .badFormat (.generation s.pe.generation)).transmit) ∧
    (∀ (kind : AccessKind) view address count (data : List Word), 1 ≤ count → count ≤ 32 →
      (kind = .read → decodeRequest r = .accessRead view address count) →
      (kind = .write → decodeRequest r = .accessWrite view address count data ∧ data.length = count) →
      let command : Instr := match kind with
        | .read => .accessRead
        | .write => .accessWrite
      let answers (status : Status) (fields : ReplyFields) : Prop :=
        exec command s = .next (s.replied r status fields).transmit
      let held (k : SlotNo) := (s.transactions.filter fun t => t.slot = k).length
      let free := ((List.finRange 96).filter fun b => s.pool[b].owner = .free).length
      (∀ status, s.translate view address count kind = .refused status →
        answers status (.generation s.pe.generation)) ∧
      (∀ word, s.translate view address count kind = .fence word → answers .ok (.fenceWord s.pe.generation word)) ∧
      (∀ k offset, s.translate view address count kind = .window k offset →
        ((s.slot k).state ≠ .placed → answers .slotState (.generation s.pe.generation)) ∧
        ((s.slot k).state = .placed → 32 ≤ s.transactions.length → answers .noTxn (.generation s.pe.generation)) ∧
        ((s.slot k).state = .placed → s.transactions.length < 32 → 4 ≤ held k →
          answers .laneBusy (.generation s.pe.generation)) ∧
        ((s.slot k).state = .placed → s.transactions.length < 32 → held k < 4 → free < (count + 7) / 8 →
          answers .noBuffer (.generation s.pe.generation))))

/-- An accepted access takes an entry, the lowest-numbered free blocks it needs, a write's words in them, and the tail of its
Lane Queue; the head leaves without a reply, and the lane goes on, which begins the exchange where it is idle (R106, R107,
R111, R113). -/
def Obligations.AccessAccepted : Prop :=
  ∀ (s : State) (r : HostRequest) (kind : AccessKind) (view address count offset : Nat) (data : List Word) (k : SlotNo),
    s.Offers r → 1 ≤ count → count ≤ 32 →
    (kind = .read → decodeRequest r = .accessRead view address count) →
    (kind = .write → decodeRequest r = .accessWrite view address count data ∧ data.length = count) →
    s.translate view address count kind = .window k offset → (s.slot k).state = .placed → s.transactions.length < 32 →
    (s.transactions.filter fun t => t.slot = k).length < 4 →
    let free := (List.finRange 96).filter fun b => s.pool[b].owner = .free
    (count + 7) / 8 ≤ free.length →
    let blocks := free.take ((count + 7) / 8)
    let command : Instr := match kind with
      | .read => .accessRead
      | .write => .accessWrite
    let accepted : State :=
      { s with
        hli := { s.hli with requests := s.hli.requests.tail }
        pool := match kind with
          | .read => s.pool.setOwner blocks (.transaction r.tag)
          | .write => (s.pool.setOwner blocks (.transaction r.tag)).store blocks data
        transactions := s.transactions ++
          [{ tag := r.tag, kind := kind, slot := k, offset := offset, count := count, blocks := blocks,
             state := .waiting, generation := s.pe.generation }] }
    exec command s = .next (State.transmit (accepted.advance k)) ∧
    ((∀ t ∈ s.transactions, t.slot ≠ k) → (∀ t ∈ s.transactions, t.tag ≠ r.tag) →
      (s.slot k).lane.exchange = none → (s.slot k).lane.resyncRequired = false →
      exec command s =
        .next (State.transmit (State.laneTransmit
          { accepted.withLane k ((s.slot k).lane.start (match kind with
              | .read => .read r.tag offset count
              | .write => .write r.tag offset count)) with
            transactions := s.transactions ++
              [{ tag := r.tag, kind := kind, slot := k, offset := offset, count := count, blocks := blocks,
                 state := .inExchange, generation := s.pe.generation }] } k)))

/-- The words stored in a list of blocks are read back from it in their order; no other block changes, and no owner does
(R106, R107). -/
def Obligations.BlocksCarryWords : Prop :=
  ∀ (pool : Pool) (blocks : List BlockNo) (ws : List Word), blocks.Nodup → ws.length ≤ 8 * blocks.length →
    (pool.store blocks ws).read blocks ws.length = ws ∧
    (∀ b : BlockNo, (pool.store blocks ws)[b].owner = pool[b].owner) ∧
    (∀ b : BlockNo, b ∉ blocks → (pool.store blocks ws)[b] = pool[b]) ∧
    (∀ (b : BlockNo) (owner : BlockOwner), (pool.setOwner blocks owner)[b] =
      if b ∈ blocks then { pool[b] with owner := owner } else pool[b])

/-- Cancel Access: NO_SUCH_TAG for a tag no transaction holds; a WAITING target is removed and answered before the Cancel,
and the lane goes on; one in exchange becomes CANCELLING with its exchange marked, and where a retry waits unsent the
exchange ends at once; a CANCELLING one stays (R94, R121, R122). That the Cancel's reply comes first where the exchange
ends at once is the model's reading (log 11). -/
def Obligations.CancelAccessEffects : Prop :=
  ∀ (s : State) (r : HostRequest) (target : Byte), s.Offers r → decodeRequest r = .cancelAccess target →
    ((∀ t ∈ s.transactions, t.tag ≠ target) →
      exec .cancelAccess s = .next (s.replied r .noSuchTag .none).transmit) ∧
    (∀ t ∈ s.transactions, t.tag = target → s.TagsDistinct →
      let l := (s.slot t.slot).lane
      (t.state = .waiting →
        exec .cancelAccess s =
          .next (State.transmit ((State.replied
            (s.ended [t] fun t => t.replyWith .cancelled (.cancelled t.generation .notSent)) r .ok
            (.foundState .waiting)).advance t.slot))) ∧
      (t.state = .cancelling → exec .cancelAccess s = .next (s.replied r .ok (.foundState .cancelling)).transmit) ∧
      (∀ x tag, t.state = .inExchange → l.exchange = some x → x.kind.tag? = some tag →
        let marked : Exchange := { x with cancelled := true }
        let cancelling : State :=
          { (s.replied r .ok (.foundState .inExchange)).withLane t.slot { l with exchange := some marked } with
            transactions := s.transactions.map fun u => if u = t then { u with state := .cancelling } else u }
        let expired : State := cancelling.withLane t.slot
          { l with
            exchange := some marked
            counters := { l.counters with expiredExchanges := bump l.counters.expiredExchanges } }
        (¬(x.frameWaiting = true ∧ 1 < x.sends) → exec .cancelAccess s = .next cancelling.transmit) ∧
        (x.frameWaiting = true → 1 < x.sends →
          exec .cancelAccess s =
            .next (State.transmit ((expired.endCancelledExchange t.slot marked).advance t.slot)))))

/-! ## The Attention Unit -/

/-- Acknowledge Notices removes the notices from the oldest through the one named, then queues the SUMMARY where one is due,
and reports both counts; a number that is not queued is refused with BAD_SEQ and nothing changes (R127, R131, R134). -/
def Obligations.AcknowledgeEffects : Prop :=
  ∀ (s : State) (r : HostRequest) (q : Nat), s.Offers r → decodeRequest r = .acknowledgeNotices q → s.au.Consistent →
    ((∀ n ∈ s.au.queue, n.seq ≠ q) →
      exec .acknowledgeNotices s =
        .next (s.replied r .badSeq
          (.badSeq ((s.au.queue.head?.map Notice.seq).getD 0) s.au.queue.length)).transmit) ∧
    (∀ older n newer, s.au.queue = older ++ n :: newer → n.seq = q →
      let au : AttentionUnit :=
        if s.au.summaryDue then
          { s.au with
            queue := newer ++ [⟨s.au.nextSeq, .summary s.au.lostCount, .fresh⟩]
            nextSeq := nextSequence s.au.nextSeq
            summaryDue := false
            lostCount := 0 }
        else { s.au with queue := newer }
      exec .acknowledgeNotices s =
        .next (State.transmit (State.replied
          { s with au := au, hli := s.hli.forgets ((older ++ [n]).map Notice.seq) } r .ok
          (.acknowledged (older.length + 1) au.queue.length))))

/-- Resend Notices makes every SENT notice from the one named on NEW again, and reports their number; a number that is not
queued is refused with BAD_SEQ and nothing changes (R127, R136). -/
def Obligations.ResendEffects : Prop :=
  ∀ (s : State) (r : HostRequest) (q : Nat), s.Offers r → decodeRequest r = .resendNotices q → s.au.Consistent →
    ((∀ n ∈ s.au.queue, n.seq ≠ q) →
      exec .resendNotices s =
        .next (s.replied r .badSeq
          (.badSeq ((s.au.queue.head?.map Notice.seq).getD 0) s.au.queue.length)).transmit) ∧
    (∀ older n newer, s.au.queue = older ++ n :: newer → n.seq = q →
      exec .resendNotices s =
        .next (State.transmit (State.replied
          { s with au := { s.au with queue := older ++ (n :: newer).map fun m => { m with delivery := .fresh } } } r .ok
          (.madeNew ((n :: newer).filter fun m => m.delivery = .sent).length))))

/-- Set Event Enable sets the flags of its consecutive numbers, all at once, and no other; a count of 0, numbers past 255 or
a setting that is neither are refused with BAD_PARAM and change no flag (R139). -/
def Obligations.SetEventEnableEffects : Prop :=
  ∀ (s : State) (r : HostRequest) (first count setting : Nat), s.Offers r →
    decodeRequest r = .setEventEnable first count setting →
    (count = 0 ∨ 256 < first + count ∨ 1 < setting →
      exec .setEventEnable s = .next (s.replied r .badParam .none).transmit) ∧
    (1 ≤ count → first + count ≤ 256 → setting ≤ 1 →
      ∃ t, exec .setEventEnable s = .next t.transmit ∧
        t = State.replied { s with au := { s.au with enabled := t.au.enabled } } r .ok .none ∧
        ∀ n : Fin 256, t.au.enabled[n] =
          if first ≤ n.val ∧ n.val < first + count then decide (setting = 1) else s.au.enabled[n])

/-- A system notice is queued at the next sequence number while an entry is free, and lost and counted otherwise; the lost
count stops at 65535 (R127, R130). The EVENT notices queued, which R129 bounds, are counted one by one. -/
def Obligations.PostingRule : Prop :=
  ∀ (au : AttentionUnit) (kind : NoticeKind),
    (au.summaryDue = false → au.queue.length < 64 →
      au.post kind =
        { au with
          queue := au.queue ++ [⟨au.nextSeq, kind, .fresh⟩]
          nextSeq := if au.nextSeq < 65535 then au.nextSeq + 1 else 1 }) ∧
    (au.summaryDue = false → 64 ≤ au.queue.length → au.post kind = { au with summaryDue := true, lostCount := 1 }) ∧
    (au.summaryDue = true → au.post kind = { au with lostCount := min (au.lostCount + 1) 65535 }) ∧
    { au with queue := [] }.eventCount = 0 ∧
    (∀ (n : Notice) (rest : List Notice), { au with queue := n :: rest }.eventCount =
      { au with queue := rest }.eventCount + match n.kind with
        | .event .. => 1
        | _ => 0)

/-! ## What every step keeps -/

/-- Every step keeps the parameters, the numbers and the counters in their ranges (R40, R41, R59, R103, R153, R154, R157).
What each number becomes when it goes on: the generation passes from 65535 to 1 (R40), the draft stamp and the join count
from 65535 to 0 (R41, R59), the sequence number from 65535 to 1 (R127), a counter stops at 4294967295 (R103, R154), and
replies-since-notice at 4 (R152). -/
def Obligations.NumbersStayInRange : Prop :=
  (∀ n, n ≤ 65535 →
    nextGeneration n = (if n = 65535 then 1 else n + 1) ∧ nextStamp n = (if n = 65535 then 0 else n + 1) ∧
    nextJoinCount n = (if n = 65535 then 0 else n + 1) ∧ nextSequence n = (if n = 65535 then 1 else n + 1)) ∧
  (∀ n, bump n = min (n + 1) 4294967295 ∧ bumpSinceNotice n = min (n + 1) 4) ∧
  ∀ s t : State, s.params.InRange → s.NumbersInRange → step s = .next t → t.params.InRange ∧ t.NumbersInRange

/-- Every step keeps the Attention Unit consistent: at most 64 notices and 56 events, consecutive numbers, the SENT notices a
run at the head, and losses counted only while the queue is full (R125, R127, R129 to R131). -/
def Obligations.AttentionStaysConsistent : Prop :=
  ∀ s t : State, s.au.Consistent → step s = .next t → t.au.Consistent

/-- Every step keeps the catalogue consistent: at most 32 valid entries in rank order, no code twice, anchor regions
disjoint (R1, R3). -/
def Obligations.CatalogueStaysConsistent : Prop :=
  ∀ s t : State, CatalogueConsistent s.pe.catalogue → step s = .next t → CatalogueConsistent t.pe.catalogue

/-- Every step keeps each Slot Controller consistent (R59 to R63, R85, R90, R95, R96). -/
def Obligations.SlotsStayConsistent : Prop :=
  ∀ s t : State, s.SlotsInvariant → step s = .next t → t.SlotsInvariant

/-- Every step keeps the Active Placement consistent and in agreement with the catalogue and the slots (R11, R17, R37,
R38). -/
def Obligations.PlacementStaysConsistent : Prop :=
  ∀ s t : State, s.SlotsInvariant → s.PlacementInvariant → step s = .next t → t.PlacementInvariant

/-- Every step keeps the account of tags, replies owed, transactions and blocks: no tag twice, at most 48 replies owed, every
block with exactly one holder (R104 to R107, R147, R149, R151). -/
def Obligations.LedgerStaysBalanced : Prop :=
  ∀ s t : State, s.LedgerInvariant → step s = .next t → t.LedgerInvariant

/-- Every step keeps the lanes and the Transaction Table in agreement: one transaction in exchange at most on a lane, the
oldest of its queue, and the lane's own exchange (R73, R85, R105, R122). -/
def Obligations.LanesStayConsistent : Prop :=
  ∀ s t : State, s.SlotsInvariant → s.LedgerInvariant → s.LanesInvariant → step s = .next t → t.LanesInvariant
end

