-- ==== Sys2Proof/Laws/State.lean ====
section
/-! SUPPORT. What each named update of the state does to each of its nine fields, true by definition. A later proof cites these and unfolds no update. -/

namespace Sys2Proof.Machine

variable (s : State)

/-! ## State.modSlot -/

@[simp] theorem State.modSlot_held (k : SlotNo) (f : Slot → Slot) : (s.modSlot k f).held = s.held := rfl
@[simp] theorem State.modSlot_params (k : SlotNo) (f : Slot → Slot) : (s.modSlot k f).params = s.params := rfl
@[simp] theorem State.modSlot_hli (k : SlotNo) (f : Slot → Slot) : (s.modSlot k f).hli = s.hli := rfl
@[simp] theorem State.modSlot_pe (k : SlotNo) (f : Slot → Slot) : (s.modSlot k f).pe = s.pe := rfl
theorem State.modSlot_slots (k : SlotNo) (f : Slot → Slot) :
    (s.modSlot k f).slots = s.slots.set k (f s.slots[k]) := rfl
@[simp] theorem State.modSlot_transactions (k : SlotNo) (f : Slot → Slot) :
    (s.modSlot k f).transactions = s.transactions := rfl
@[simp] theorem State.modSlot_pool (k : SlotNo) (f : Slot → Slot) : (s.modSlot k f).pool = s.pool := rfl
@[simp] theorem State.modSlot_au (k : SlotNo) (f : Slot → Slot) : (s.modSlot k f).au = s.au := rfl
@[simp] theorem State.modSlot_pending (k : SlotNo) (f : Slot → Slot) : (s.modSlot k f).pending = s.pending := rfl

/-! ## State.modLane -/

@[simp] theorem State.modLane_held (k : SlotNo) (f : Lane → Lane) : (s.modLane k f).held = s.held := rfl
@[simp] theorem State.modLane_params (k : SlotNo) (f : Lane → Lane) : (s.modLane k f).params = s.params := rfl
@[simp] theorem State.modLane_hli (k : SlotNo) (f : Lane → Lane) : (s.modLane k f).hli = s.hli := rfl
@[simp] theorem State.modLane_pe (k : SlotNo) (f : Lane → Lane) : (s.modLane k f).pe = s.pe := rfl
@[simp] theorem State.modLane_transactions (k : SlotNo) (f : Lane → Lane) :
    (s.modLane k f).transactions = s.transactions := rfl
@[simp] theorem State.modLane_pool (k : SlotNo) (f : Lane → Lane) : (s.modLane k f).pool = s.pool := rfl
@[simp] theorem State.modLane_au (k : SlotNo) (f : Lane → Lane) : (s.modLane k f).au = s.au := rfl
@[simp] theorem State.modLane_pending (k : SlotNo) (f : Lane → Lane) : (s.modLane k f).pending = s.pending := rfl

/-! ## State.countLane -/

@[simp] theorem State.countLane_held (k : SlotNo) (f : LaneCounters → LaneCounters) :
    (s.countLane k f).held = s.held := rfl
@[simp] theorem State.countLane_params (k : SlotNo) (f : LaneCounters → LaneCounters) :
    (s.countLane k f).params = s.params := rfl
@[simp] theorem State.countLane_hli (k : SlotNo) (f : LaneCounters → LaneCounters) :
    (s.countLane k f).hli = s.hli := rfl
@[simp] theorem State.countLane_pe (k : SlotNo) (f : LaneCounters → LaneCounters) :
    (s.countLane k f).pe = s.pe := rfl
@[simp] theorem State.countLane_transactions (k : SlotNo) (f : LaneCounters → LaneCounters) :
    (s.countLane k f).transactions = s.transactions := rfl
@[simp] theorem State.countLane_pool (k : SlotNo) (f : LaneCounters → LaneCounters) :
    (s.countLane k f).pool = s.pool := rfl
@[simp] theorem State.countLane_au (k : SlotNo) (f : LaneCounters → LaneCounters) :
    (s.countLane k f).au = s.au := rfl
@[simp] theorem State.countLane_pending (k : SlotNo) (f : LaneCounters → LaneCounters) :
    (s.countLane k f).pending = s.pending := rfl

/-! ## State.bumpStamp -/

@[simp] theorem State.bumpStamp_held : (s.bumpStamp).held = s.held := rfl
@[simp] theorem State.bumpStamp_params : (s.bumpStamp).params = s.params := rfl
@[simp] theorem State.bumpStamp_hli : (s.bumpStamp).hli = s.hli := rfl
@[simp] theorem State.bumpStamp_pe : (s.bumpStamp).pe = { s.pe with stamp := nextStamp s.pe.stamp } := rfl
@[simp] theorem State.bumpStamp_slots : (s.bumpStamp).slots = s.slots := rfl
@[simp] theorem State.bumpStamp_transactions : (s.bumpStamp).transactions = s.transactions := rfl
@[simp] theorem State.bumpStamp_pool : (s.bumpStamp).pool = s.pool := rfl
@[simp] theorem State.bumpStamp_au : (s.bumpStamp).au = s.au := rfl
@[simp] theorem State.bumpStamp_pending : (s.bumpStamp).pending = s.pending := rfl

/-! ## State.setTransactionState -/

@[simp] theorem State.setTransactionState_held (tag : Byte) (st : TransactionState) :
    (s.setTransactionState tag st).held = s.held := rfl
@[simp] theorem State.setTransactionState_params (tag : Byte) (st : TransactionState) :
    (s.setTransactionState tag st).params = s.params := rfl
@[simp] theorem State.setTransactionState_hli (tag : Byte) (st : TransactionState) :
    (s.setTransactionState tag st).hli = s.hli := rfl
@[simp] theorem State.setTransactionState_pe (tag : Byte) (st : TransactionState) :
    (s.setTransactionState tag st).pe = s.pe := rfl
@[simp] theorem State.setTransactionState_slots (tag : Byte) (st : TransactionState) :
    (s.setTransactionState tag st).slots = s.slots := rfl
@[simp] theorem State.setTransactionState_transactions (tag : Byte) (st : TransactionState) :
    (s.setTransactionState tag st).transactions = s.transactions.map fun t => if t.tag == tag then { t with state := st } else t := rfl
@[simp] theorem State.setTransactionState_pool (tag : Byte) (st : TransactionState) :
    (s.setTransactionState tag st).pool = s.pool := rfl
@[simp] theorem State.setTransactionState_au (tag : Byte) (st : TransactionState) :
    (s.setTransactionState tag st).au = s.au := rfl
@[simp] theorem State.setTransactionState_pending (tag : Byte) (st : TransactionState) :
    (s.setTransactionState tag st).pending = s.pending := rfl

/-! ## State.reply -/

@[simp] theorem State.reply_held (code tag : Byte) (status : Status) (fields : ReplyFields) :
    (s.reply code tag status fields).held = s.held := rfl
@[simp] theorem State.reply_params (code tag : Byte) (status : Status) (fields : ReplyFields) :
    (s.reply code tag status fields).params = s.params := rfl
@[simp] theorem State.reply_hli (code tag : Byte) (status : Status) (fields : ReplyFields) :
    (s.reply code tag status fields).hli = { s.hli with replies := s.hli.replies ++ [⟨replyCode code, tag, status, fields⟩] } := rfl
@[simp] theorem State.reply_pe (code tag : Byte) (status : Status) (fields : ReplyFields) :
    (s.reply code tag status fields).pe = s.pe := rfl
@[simp] theorem State.reply_slots (code tag : Byte) (status : Status) (fields : ReplyFields) :
    (s.reply code tag status fields).slots = s.slots := rfl
@[simp] theorem State.reply_transactions (code tag : Byte) (status : Status) (fields : ReplyFields) :
    (s.reply code tag status fields).transactions = s.transactions := rfl
@[simp] theorem State.reply_pool (code tag : Byte) (status : Status) (fields : ReplyFields) :
    (s.reply code tag status fields).pool = s.pool := rfl
@[simp] theorem State.reply_au (code tag : Byte) (status : Status) (fields : ReplyFields) :
    (s.reply code tag status fields).au = s.au := rfl
@[simp] theorem State.reply_pending (code tag : Byte) (status : Status) (fields : ReplyFields) :
    (s.reply code tag status fields).pending = s.pending := rfl

/-! ## State.answer -/

@[simp] theorem State.answer_held (r : HostRequest) (status : Status) (fields : ReplyFields) :
    (s.answer r status fields).held = s.held := rfl
@[simp] theorem State.answer_params (r : HostRequest) (status : Status) (fields : ReplyFields) :
    (s.answer r status fields).params = s.params := rfl
@[simp] theorem State.answer_hli (r : HostRequest) (status : Status) (fields : ReplyFields) :
    (s.answer r status fields).hli = { s.hli with replies := s.hli.replies ++ [⟨replyCode r.code, r.tag, status, fields⟩] } := rfl
@[simp] theorem State.answer_pe (r : HostRequest) (status : Status) (fields : ReplyFields) :
    (s.answer r status fields).pe = s.pe := rfl
@[simp] theorem State.answer_slots (r : HostRequest) (status : Status) (fields : ReplyFields) :
    (s.answer r status fields).slots = s.slots := rfl
@[simp] theorem State.answer_transactions (r : HostRequest) (status : Status) (fields : ReplyFields) :
    (s.answer r status fields).transactions = s.transactions := rfl
@[simp] theorem State.answer_pool (r : HostRequest) (status : Status) (fields : ReplyFields) :
    (s.answer r status fields).pool = s.pool := rfl
@[simp] theorem State.answer_au (r : HostRequest) (status : Status) (fields : ReplyFields) :
    (s.answer r status fields).au = s.au := rfl
@[simp] theorem State.answer_pending (r : HostRequest) (status : Status) (fields : ReplyFields) :
    (s.answer r status fields).pending = s.pending := rfl

/-! ## State.endTransaction -/

@[simp] theorem State.endTransaction_held (t : Transaction) (owner : BlockOwner) (status : Status) (fields : ReplyFields) :
    (s.endTransaction t owner status fields).held = s.held := rfl
@[simp] theorem State.endTransaction_params (t : Transaction) (owner : BlockOwner) (status : Status) (fields : ReplyFields) :
    (s.endTransaction t owner status fields).params = s.params := rfl
@[simp] theorem State.endTransaction_hli (t : Transaction) (owner : BlockOwner) (status : Status) (fields : ReplyFields) :
    (s.endTransaction t owner status fields).hli = { s.hli with replies := s.hli.replies ++ [⟨replyCode t.kind.code, t.tag, status, fields⟩] } := rfl
@[simp] theorem State.endTransaction_pe (t : Transaction) (owner : BlockOwner) (status : Status) (fields : ReplyFields) :
    (s.endTransaction t owner status fields).pe = s.pe := rfl
@[simp] theorem State.endTransaction_slots (t : Transaction) (owner : BlockOwner) (status : Status) (fields : ReplyFields) :
    (s.endTransaction t owner status fields).slots = s.slots := rfl
@[simp] theorem State.endTransaction_transactions (t : Transaction) (owner : BlockOwner) (status : Status) (fields : ReplyFields) :
    (s.endTransaction t owner status fields).transactions = s.transactions.filter fun u => !(u.tag == t.tag) := rfl
@[simp] theorem State.endTransaction_pool (t : Transaction) (owner : BlockOwner) (status : Status) (fields : ReplyFields) :
    (s.endTransaction t owner status fields).pool = s.pool.setOwner t.blocks owner := rfl
@[simp] theorem State.endTransaction_au (t : Transaction) (owner : BlockOwner) (status : Status) (fields : ReplyFields) :
    (s.endTransaction t owner status fields).au = s.au := rfl
@[simp] theorem State.endTransaction_pending (t : Transaction) (owner : BlockOwner) (status : Status) (fields : ReplyFields) :
    (s.endTransaction t owner status fields).pending = s.pending := rfl

/-! ## State.endWithout -/

@[simp] theorem State.endWithout_held (t : Transaction) (status : Status) :
    (s.endWithout t status).held = s.held := rfl
@[simp] theorem State.endWithout_params (t : Transaction) (status : Status) :
    (s.endWithout t status).params = s.params := rfl
@[simp] theorem State.endWithout_hli (t : Transaction) (status : Status) :
    (s.endWithout t status).hli = { s.hli with
      replies := s.hli.replies ++ [⟨replyCode t.kind.code, t.tag, status, .generation t.generation⟩] } := rfl
@[simp] theorem State.endWithout_pe (t : Transaction) (status : Status) : (s.endWithout t status).pe = s.pe := rfl
@[simp] theorem State.endWithout_slots (t : Transaction) (status : Status) :
    (s.endWithout t status).slots = s.slots := rfl
@[simp] theorem State.endWithout_transactions (t : Transaction) (status : Status) :
    (s.endWithout t status).transactions = s.transactions.filter fun u => !(u.tag == t.tag) := rfl
@[simp] theorem State.endWithout_pool (t : Transaction) (status : Status) :
    (s.endWithout t status).pool = s.pool.setOwner t.blocks .free := rfl
@[simp] theorem State.endWithout_au (t : Transaction) (status : Status) : (s.endWithout t status).au = s.au := rfl
@[simp] theorem State.endWithout_pending (t : Transaction) (status : Status) :
    (s.endWithout t status).pending = s.pending := rfl

/-! ## State.endCancelled -/

@[simp] theorem State.endCancelled_held (t : Transaction) (outcome : CancelOutcome) :
    (s.endCancelled t outcome).held = s.held := rfl
@[simp] theorem State.endCancelled_params (t : Transaction) (outcome : CancelOutcome) :
    (s.endCancelled t outcome).params = s.params := rfl
@[simp] theorem State.endCancelled_hli (t : Transaction) (outcome : CancelOutcome) :
    (s.endCancelled t outcome).hli = { s.hli with
      replies := s.hli.replies ++ [⟨replyCode t.kind.code, t.tag, .cancelled, .cancelled t.generation outcome⟩] } := rfl
@[simp] theorem State.endCancelled_pe (t : Transaction) (outcome : CancelOutcome) :
    (s.endCancelled t outcome).pe = s.pe := rfl
@[simp] theorem State.endCancelled_slots (t : Transaction) (outcome : CancelOutcome) :
    (s.endCancelled t outcome).slots = s.slots := rfl
@[simp] theorem State.endCancelled_transactions (t : Transaction) (outcome : CancelOutcome) :
    (s.endCancelled t outcome).transactions = s.transactions.filter fun u => !(u.tag == t.tag) := rfl
@[simp] theorem State.endCancelled_pool (t : Transaction) (outcome : CancelOutcome) :
    (s.endCancelled t outcome).pool = s.pool.setOwner t.blocks .free := rfl
@[simp] theorem State.endCancelled_au (t : Transaction) (outcome : CancelOutcome) :
    (s.endCancelled t outcome).au = s.au := rfl
@[simp] theorem State.endCancelled_pending (t : Transaction) (outcome : CancelOutcome) :
    (s.endCancelled t outcome).pending = s.pending := rfl

/-! ## State.post -/

@[simp] theorem State.post_held (kind : NoticeKind) : (s.post kind).held = s.held := rfl
@[simp] theorem State.post_params (kind : NoticeKind) : (s.post kind).params = s.params := rfl
@[simp] theorem State.post_hli (kind : NoticeKind) : (s.post kind).hli = s.hli := rfl
@[simp] theorem State.post_pe (kind : NoticeKind) : (s.post kind).pe = s.pe := rfl
@[simp] theorem State.post_slots (kind : NoticeKind) : (s.post kind).slots = s.slots := rfl
@[simp] theorem State.post_transactions (kind : NoticeKind) : (s.post kind).transactions = s.transactions := rfl
@[simp] theorem State.post_pool (kind : NoticeKind) : (s.post kind).pool = s.pool := rfl
@[simp] theorem State.post_au (kind : NoticeKind) : (s.post kind).au = s.au.post kind := rfl
@[simp] theorem State.post_pending (kind : NoticeKind) : (s.post kind).pending = s.pending := rfl

/-! ## State.dropHead -/

@[simp] theorem State.dropHead_held : (s.dropHead).held = s.held := rfl
@[simp] theorem State.dropHead_params : (s.dropHead).params = s.params := rfl
@[simp] theorem State.dropHead_hli : (s.dropHead).hli = { s.hli with requests := s.hli.requests.tail } := rfl
@[simp] theorem State.dropHead_pe : (s.dropHead).pe = s.pe := rfl
@[simp] theorem State.dropHead_slots : (s.dropHead).slots = s.slots := rfl
@[simp] theorem State.dropHead_transactions : (s.dropHead).transactions = s.transactions := rfl
@[simp] theorem State.dropHead_pool : (s.dropHead).pool = s.pool := rfl
@[simp] theorem State.dropHead_au : (s.dropHead).au = s.au := rfl
@[simp] theorem State.dropHead_pending : (s.dropHead).pending = s.pending := rfl

end Sys2Proof.Machine
end

