-- ==== Sys2Proof/Laws/Ops.lean ====
section
/-! SUPPORT. What the shared operations of Machine/Ops.lean do, one lemma for each: slots, blocks, the ends of transactions, notices, and the step that takes a request or an event. -/

namespace Sys2Proof.Machine

/-! ## Slots -/

@[simp] theorem State.slot_modSlot_self (s : State) (k : SlotNo) (f : Slot → Slot) :
    (s.modSlot k f).slot k = f (s.slot k) := by
  simp [State.slot, State.modSlot]

theorem State.slot_modSlot_ne (s : State) {k j : SlotNo} (f : Slot → Slot) (h : j ≠ k) :
    (s.modSlot k f).slot j = s.slot j := by
  have : k.val ≠ j.val := fun e => h (Fin.ext e.symm)
  simp [State.slot, State.modSlot, this]

theorem State.slot_modSlot (s : State) (k j : SlotNo) (f : Slot → Slot) :
    (s.modSlot k f).slot j = if j = k then f (s.slot k) else s.slot j := by
  by_cases h : j = k
  · subst h; simp
  · simp [h, State.slot_modSlot_ne s f h]

@[simp] theorem State.slot_modLane_self (s : State) (k : SlotNo) (f : Lane → Lane) :
    (s.modLane k f).slot k = { s.slot k with lane := f (s.slot k).lane } := by
  simp [State.modLane]

theorem State.slot_modLane_ne (s : State) {k j : SlotNo} (f : Lane → Lane) (h : j ≠ k) :
    (s.modLane k f).slot j = s.slot j := State.slot_modSlot_ne s _ h

@[simp] theorem State.slot_countLane_self (s : State) (k : SlotNo) (f : LaneCounters → LaneCounters) :
    (s.countLane k f).slot k =
      { s.slot k with lane := { (s.slot k).lane with counters := f (s.slot k).lane.counters } } := by
  simp [State.countLane]

theorem State.slot_countLane_ne (s : State) {k j : SlotNo} (f : LaneCounters → LaneCounters) (h : j ≠ k) :
    (s.countLane k f).slot j = s.slot j := State.slot_modLane_ne s _ h

/-- Two states with the same slots have the same Slot Controllers. -/
theorem State.slot_congr {s t : State} (h : s.slots = t.slots) (k : SlotNo) : s.slot k = t.slot k := by
  simp [State.slot, h]

@[simp] theorem State.slot_bumpStamp (s : State) (k : SlotNo) : s.bumpStamp.slot k = s.slot k := rfl
@[simp] theorem State.slot_post (s : State) (kind : NoticeKind) (k : SlotNo) : (s.post kind).slot k = s.slot k := rfl
@[simp] theorem State.slot_reply (s : State) (code tag : Byte) (st : Status) (f : ReplyFields) (k : SlotNo) :
    (s.reply code tag st f).slot k = s.slot k := rfl
@[simp] theorem State.slot_answer (s : State) (r : HostRequest) (st : Status) (f : ReplyFields) (k : SlotNo) :
    (s.answer r st f).slot k = s.slot k := rfl
@[simp] theorem State.slot_endTransaction (s : State) (t : Transaction) (o : BlockOwner) (st : Status)
    (f : ReplyFields) (k : SlotNo) : (s.endTransaction t o st f).slot k = s.slot k := rfl
@[simp] theorem State.slot_setTransactionState (s : State) (tag : Byte) (st : TransactionState) (k : SlotNo) :
    (s.setTransactionState tag st).slot k = s.slot k := rfl
@[simp] theorem State.slot_dropHead (s : State) (k : SlotNo) : s.dropHead.slot k = s.slot k := rfl

@[simp] theorem Slot.enter_state (sl : Slot) (st : SlotState) : (sl.enter st).state = st := rfl
@[simp] theorem Slot.enter_presence (sl : Slot) (st : SlotState) : (sl.enter st).presence = sl.presence := rfl
@[simp] theorem Slot.enter_settle (sl : Slot) (st : SlotState) : (sl.enter st).settle = sl.settle := rfl
@[simp] theorem Slot.enter_identity (sl : Slot) (st : SlotState) : (sl.enter st).identity = sl.identity := rfl
@[simp] theorem Slot.enter_joinCount (sl : Slot) (st : SlotState) : (sl.enter st).joinCount = sl.joinCount := rfl
@[simp] theorem Slot.enter_failures (sl : Slot) (st : SlotState) : (sl.enter st).failures = sl.failures := rfl
@[simp] theorem Slot.enter_exchange (sl : Slot) (st : SlotState) :
    (sl.enter st).lane.exchange = sl.lane.exchange := rfl
@[simp] theorem Slot.enter_resyncRequired (sl : Slot) (st : SlotState) :
    (sl.enter st).lane.resyncRequired = (sl.lane.resyncRequired && st.participates) := rfl

theorem mem_slotNumbers (k : SlotNo) : k ∈ slotNumbers := List.mem_finRange k

theorem slotNo?_lt {n : Nat} (h : n < 16) : slotNo? n = some ⟨n, h⟩ := by
  simp [slotNo?, Config.slotCount, h]

theorem slotNo?_ge {n : Nat} (h : 16 ≤ n) : slotNo? n = none := by
  have : ¬ n < Config.slotCount := by simp [Config.slotCount]; omega
  simp [slotNo?, this]

@[simp] theorem slotNo?_val (k : SlotNo) : slotNo? k.val = some k := slotNo?_lt k.isLt

/-! ## Buffer Pool (R106, R107) -/

@[simp] theorem Pool.setOwner_get (pool : Pool) (blocks : List BlockNo) (owner : BlockOwner) (b : BlockNo) :
    (pool.setOwner blocks owner)[b] = if b ∈ blocks then { pool[b] with owner := owner } else pool[b] := by
  simp [Pool.setOwner]

@[simp] theorem Pool.store_owner (pool : Pool) (blocks : List BlockNo) (ws : List Word) (b : BlockNo) :
    (pool.store blocks ws)[b].owner = pool[b].owner := by
  by_cases h : b ∈ blocks <;> simp [Pool.store, h]

theorem Pool.mem_freeBlocks (pool : Pool) (b : BlockNo) : b ∈ pool.freeBlocks ↔ pool[b].owner = .free := by
  simp [Pool.freeBlocks]

theorem Pool.freeBlocks_nodup (pool : Pool) : pool.freeBlocks.Nodup := (List.nodup_finRange 96).filter _

/-! ## The ends of transactions (R117 to R119) -/

/-- What ending a list of transactions without data does, each in its turn: the replies are produced in the order of the
list, the entries leave the table, the blocks become free, and nothing else changes. -/
structure State.EndsAll (s s' : State) (ts : List Transaction) (f : Transaction → Reply) : Prop where
  held : s'.held = s.held
  params : s'.params = s.params
  hli : s'.hli = { s.hli with replies := s.hli.replies ++ ts.map f }
  pe : s'.pe = s.pe
  slots : s'.slots = s.slots
  transactions : s'.transactions = s.transactions.filter fun u => ts.all fun t => !(u.tag == t.tag)
  pool : s'.pool = ts.foldl (fun p t => p.setOwner t.blocks .free) s.pool
  au : s'.au = s.au
  pending : s'.pending = s.pending

/-- A fold that ends each transaction of a list without data is described by `State.EndsAll`. -/
theorem State.endsAll_foldl (f : Transaction → Reply) (g : State → Transaction → State)
    (hg : ∀ s t, (g s t).EndsAll (g s t) [] f ∧ s.EndsAll (g s t) [t] f) (ts : List Transaction) (s : State) :
    s.EndsAll (ts.foldl g s) ts f := by
  induction ts generalizing s with
  | nil => exact ⟨rfl, rfl, by simp, rfl, rfl, by simp, rfl, rfl, rfl⟩
  | cons t ts ih =>
    have h1 := (hg s t).2
    have h2 := ih (g s t)
    refine ⟨h2.held.trans h1.held, h2.params.trans h1.params, ?_, h2.pe.trans h1.pe, h2.slots.trans h1.slots, ?_, ?_,
      h2.au.trans h1.au, h2.pending.trans h1.pending⟩
    · simp [h2.hli, h1.hli]
    · simp [h2.transactions, h1.transactions, List.filter_filter, Bool.and_comm]
    · simp [h2.pool, h1.pool]

/-- What the end of a slot's tenure does to the transactions of its Lane Queue (R117). -/
theorem State.endTenure_spec (s : State) (k : SlotNo) (status : Status) :
    s.EndsAll (s.endTenure k status) (s.laneQueue k) fun t => t.tenureReply status := by
  refine State.endsAll_foldl _ _ (fun s t => ⟨⟨rfl, rfl, by simp, rfl, rfl, by simp, rfl, rfl, rfl⟩, ?_⟩) _ s
  by_cases h : t.state = .cancelling
  · simp only [h, if_true]
    exact ⟨rfl, rfl, by simp [Transaction.tenureReply, Transaction.replyWith, h], rfl, rfl, by simp, rfl, rfl, rfl⟩
  · simp only [h, if_false]
    exact ⟨rfl, rfl, by simp [Transaction.tenureReply, Transaction.replyWith, h], rfl, rfl, by simp, rfl, rfl, rfl⟩

/-- What Restart does to the transactions of one Lane Queue (R118). -/
theorem State.abortQueue_spec (s : State) (k : SlotNo) :
    s.EndsAll (s.abortQueue k) (s.laneQueue k) fun t => t.replyWith .aborted (.generation t.generation) := by
  refine State.endsAll_foldl _ _ (fun s t => ⟨⟨rfl, rfl, by simp, rfl, rfl, by simp, rfl, rfl, rfl⟩, ?_⟩) _ s
  exact ⟨rfl, rfl, by simp [Transaction.replyWith], rfl, rfl, by simp, rfl, rfl, rfl⟩

section
variable (s : State) (k : SlotNo) (status : Status)
@[simp] theorem State.endTenure_held : (s.endTenure k status).held = s.held := (s.endTenure_spec k status).held
@[simp] theorem State.endTenure_params : (s.endTenure k status).params = s.params := (s.endTenure_spec k status).params
@[simp] theorem State.endTenure_pe : (s.endTenure k status).pe = s.pe := (s.endTenure_spec k status).pe
@[simp] theorem State.endTenure_slots : (s.endTenure k status).slots = s.slots := (s.endTenure_spec k status).slots
@[simp] theorem State.endTenure_au : (s.endTenure k status).au = s.au := (s.endTenure_spec k status).au
@[simp] theorem State.endTenure_pending : (s.endTenure k status).pending = s.pending :=
  (s.endTenure_spec k status).pending
@[simp] theorem State.slot_endTenure (j : SlotNo) : (s.endTenure k status).slot j = s.slot j :=
  State.slot_congr (s.endTenure_spec k status).slots j
end

/-- After the end of a slot's tenure its Lane Queue is empty (R117). -/
theorem State.laneQueue_endTenure (s : State) (k : SlotNo) (status : Status) : (s.endTenure k status).laneQueue k = [] := by
  rw [State.laneQueue, (s.endTenure_spec k status).transactions, List.filter_filter]
  refine List.filter_eq_nil_iff.mpr fun t ht => ?_
  simp only [Bool.and_eq_true, not_and]
  intro hk hall
  have hm : t ∈ s.laneQueue k := by simpa [State.laneQueue] using ⟨ht, by simpa using hk⟩
  simpa using List.all_eq_true.mp hall t hm

/-! ## Attention Unit (R125, R127, R130) -/

section
variable (au : AttentionUnit) (kind : NoticeKind)
@[simp] theorem AttentionUnit.append_queue : (au.append kind).queue = au.queue ++ [⟨au.nextSeq, kind, .fresh⟩] := rfl
@[simp] theorem AttentionUnit.append_nextSeq : (au.append kind).nextSeq = nextSequence au.nextSeq := rfl
@[simp] theorem AttentionUnit.append_summaryDue : (au.append kind).summaryDue = au.summaryDue := rfl
@[simp] theorem AttentionUnit.append_lostCount : (au.append kind).lostCount = au.lostCount := rfl
@[simp] theorem AttentionUnit.append_enabled : (au.append kind).enabled = au.enabled := rfl
end

/-- Posting a system notice does one of three things (R130). -/
theorem AttentionUnit.post_cases (au : AttentionUnit) (kind : NoticeKind) :
    (au.summaryDue = true ∧ au.post kind = { au with lostCount := bumpLost au.lostCount }) ∨
    (au.summaryDue = false ∧ au.queue.length < 64 ∧ au.post kind = au.append kind) ∨
    (au.summaryDue = false ∧ 64 ≤ au.queue.length ∧ au.post kind = { au with summaryDue := true, lostCount := 1 }) := by
  unfold AttentionUnit.post Config.attentionCapacity
  by_cases h : au.summaryDue = true
  · simp [h]
  · by_cases hl : au.queue.length < 64
    · simp [h, hl]
    · simp [h, hl]; omega

@[simp] theorem AttentionUnit.post_enabled (au : AttentionUnit) (kind : NoticeKind) :
    (au.post kind).enabled = au.enabled := by
  rcases au.post_cases kind with ⟨-, h⟩ | ⟨-, -, h⟩ | ⟨-, -, h⟩ <;> simp [h]

/-! ## The Host Link transmitter (R152) -/

/-- The end of a step changes nothing but the frame being sent (R152). -/
theorem State.transmit_eq (s : State) :
    s.transmit = { s with hli := { s.hli with sending := s.hli.sending <|> s.chooseFrame } } := by
  obtain ⟨_, _, ⟨_, _, _, _, _, _, sending, _, _⟩, _, _, _, _, _, _⟩ := s
  cases sending <;> rfl

/-- A busy transmitter goes on with its frame (R152). -/
theorem State.transmit_busy {s : State} {f : HostSending} (h : s.hli.sending = some f) : s.transmit = s := by
  unfold State.transmit; rw [h]

section
variable (s : State)
@[simp] theorem State.transmit_held : s.transmit.held = s.held := by simp [State.transmit_eq]
@[simp] theorem State.transmit_params : s.transmit.params = s.params := by simp [State.transmit_eq]
@[simp] theorem State.transmit_pe : s.transmit.pe = s.pe := by simp [State.transmit_eq]
@[simp] theorem State.transmit_slots : s.transmit.slots = s.slots := by simp [State.transmit_eq]
@[simp] theorem State.transmit_transactions : s.transmit.transactions = s.transactions := by simp [State.transmit_eq]
@[simp] theorem State.transmit_pool : s.transmit.pool = s.pool := by simp [State.transmit_eq]
@[simp] theorem State.transmit_au : s.transmit.au = s.au := by simp [State.transmit_eq]
@[simp] theorem State.transmit_pending : s.transmit.pending = s.pending := by simp [State.transmit_eq]
@[simp] theorem State.transmit_requests : s.transmit.hli.requests = s.hli.requests := by simp [State.transmit_eq]
@[simp] theorem State.transmit_replies : s.transmit.hli.replies = s.hli.replies := by simp [State.transmit_eq]
@[simp] theorem State.transmit_refusal : s.transmit.hli.refusal = s.hli.refusal := by simp [State.transmit_eq]
@[simp] theorem State.transmit_receiver : s.transmit.hli.receiver = s.hli.receiver := by simp [State.transmit_eq]
@[simp] theorem State.transmit_counters : s.transmit.hli.counters = s.hli.counters := by simp [State.transmit_eq]
@[simp] theorem State.transmit_sinceNotice : s.transmit.hli.sinceNotice = s.hli.sinceNotice := by
  simp [State.transmit_eq]
@[simp] theorem State.slot_transmit (k : SlotNo) : s.transmit.slot k = s.slot k := by simp [State.slot]
end

/-! ## The three kinds of step -/

/-- What a step that takes no request can do: nothing, or the effect followed by the transmitter's choice. -/
theorem State.event_cases {s t : State} {f : State → Option State} (h : s.event f = .next t) :
    t = s ∨ (s.held = false ∧ ∃ u, f s = some u ∧ t = u.transmit) := by
  unfold State.event at h
  split at h
  · exact .inl (by injection h with h; exact h.symm)
  · rename_i hh
    split at h
    · rename_i u hu
      exact .inr ⟨by simpa using hh, u, hu, by injection h with h; exact h.symm⟩
    · exact .inl (by injection h with h; exact h.symm)

/-- The effect of a step that comes about. -/
theorem State.event_some {s u : State} {f : State → Option State} (hs : s.held = false) (h : f s = some u) :
    s.event f = .next u.transmit := by
  simp [State.event, hs, h]

theorem State.event_none {s : State} {f : State → Option State} (h : f s = none) : s.event f = .next s := by
  unfold State.event; rw [h]; split <;> rfl

theorem State.event_held {s : State} (f : State → Option State) (hs : s.held = true) : s.event f = .next s := by
  simp [State.event, hs]

theorem State.slotEvent_val (s : State) (k : SlotNo) (f : SlotNo → State → Option State) :
    s.slotEvent k.val f = s.event (f k) := by
  simp [State.slotEvent]

/-- What a step of a slot can do. -/
theorem State.slotEvent_cases {s t : State} {n : Nat} {f : SlotNo → State → Option State}
    (h : s.slotEvent n f = .next t) :
    t = s ∨ (s.held = false ∧ ∃ k, slotNo? n = some k ∧ ∃ u, f k s = some u ∧ t = u.transmit) := by
  unfold State.slotEvent at h
  split at h
  · rename_i k hk
    rcases State.event_cases h with h | ⟨hh, u, hu, ht⟩
    · exact .inl h
    · exact .inr ⟨hh, k, hk, u, hu, ht⟩
  · exact .inl (by injection h with h; exact h.symm)

/-- What the taking of a request can do: nothing, or the effect on the state the head has left. -/
theorem State.take_cases {s t : State} {f : HostRequest → Request → State → Option State}
    (h : s.take f = .next t) :
    t = s ∨ (s.held = false ∧ s.owed < 48 ∧ ∃ r, s.hli.requests.head? = some r ∧
      ∃ u, f r (decodeRequest r) s.dropHead = some u ∧ t = u.transmit) := by
  unfold State.take at h
  split at h
  · exact .inl (by injection h with h; exact h.symm)
  · rename_i r hr
    unfold State.head? Config.owedLimit at hr
    split at hr
    · simp at hr
    · rename_i hh
      split at hr
      · rename_i ho
        split at h
        · rename_i u hu
          exact .inr ⟨by simpa using hh, ho, r, hr, u, hu, by injection h with h; exact h.symm⟩
        · exact .inl (by injection h with h; exact h.symm)
      · simp at hr

/-- The effect of the taking of a request that can be taken. -/
theorem State.take_some {s u : State} {r : HostRequest} {f : HostRequest → Request → State → Option State}
    (hs : s.held = false) (ho : s.owed < 48) (hr : s.hli.requests.head? = some r)
    (h : f r (decodeRequest r) s.dropHead = some u) : s.take f = .next u.transmit := by
  simp [State.take, State.head?, hs, Config.owedLimit, ho, hr, h]

theorem State.take_none {s : State} {r : HostRequest} {f : HostRequest → Request → State → Option State}
    (hr : s.hli.requests.head? = some r) (h : f r (decodeRequest r) s.dropHead = none) : s.take f = .next s := by
  unfold State.take State.head?
  split
  · rfl
  · rename_i q hq
    split at hq
    · simp at hq
    · split at hq
      · rw [hr] at hq; injection hq with hq; subst hq; simp [h]
      · simp at hq

/-! ## Bytes on a serial line (R142) -/

@[simp] theorem takeLine?_low {line : LineByte} (low : line.start = false) : takeLine? line = some (byteOnLine line) := by
  simp [takeLine?, low]

@[simp] theorem takeLine?_high {line : LineByte} (high : line.start = true) : takeLine? line = none := by
  simp [takeLine?, high]

@[simp] theorem lineOfByte_start (b : Byte) : (lineOfByte b).start = false := rfl

/-- The stop bit is no part of the byte. -/
theorem byteOnLine_stop (line : LineByte) (stop : Bool) : byteOnLine { line with stop := stop } = byteOnLine line := rfl

/-- A byte that the part sends is taken back as it was. -/
@[simp] theorem byteOnLine_lineOfByte : ∀ b : Byte, byteOnLine (lineOfByte b) = b := by decide +kernel

end Sys2Proof.Machine
end

