-- ==== Sys2Proof/Laws/Placement.lean ====
section
/-! SUPPORT. What departures, commits, joins and judgements change and leave alone. -/

namespace Sys2Proof.Machine

/-! ## Departures (R48, R49) -/

/-- What a slot's leaving does: its state, the Active Placement, the draft stamp, and nothing else (R48, R49). -/
structure State.Leaves (s s' : State) (k : SlotNo) (st : SlotState) : Prop where
  self : s'.slot k = (s.slot k).enter st
  others : ∀ j, j ≠ k → s'.slot j = s.slot j
  placement : s'.pe.placement =
    if (s.slot k).state.holdsWindow then vacate s.pe.placement k else s.pe.placement
  stamp : s'.pe.stamp = if (s.slot k).state.participates then nextStamp s.pe.stamp else s.pe.stamp
  generation : s'.pe.generation = s.pe.generation
  catalogue : s'.pe.catalogue = s.pe.catalogue
  held : s'.held = s.held
  params : s'.params = s.params
  hli : s'.hli = s.hli
  transactions : s'.transactions = s.transactions
  pool : s'.pool = s.pool
  au : s'.au = s.au
  pending : s'.pending = s.pending

theorem State.leave_eq (s : State) (k : SlotNo) (st : SlotState) :
    s.leave k st =
      State.modSlot
        { s with
          pe := { s.pe with
            placement := if (s.slot k).state.holdsWindow then vacate s.pe.placement k else s.pe.placement
            stamp := if (s.slot k).state.participates then nextStamp s.pe.stamp else s.pe.stamp } }
        k fun sl => sl.enter st := by
  unfold State.leave
  cases hw : (s.slot k).state.holdsWindow <;> cases hp : (s.slot k).state.participates <;>
    simp only [hw, hp, if_true, Bool.false_eq_true, if_false] <;> rfl

theorem State.leave_spec (s : State) (k : SlotNo) (st : SlotState) : s.Leaves (s.leave k st) k st := by
  rw [State.leave_eq]
  exact
    { self := State.slot_modSlot_self _ _ _
      others := fun _ hj => State.slot_modSlot_ne _ _ hj
      placement := rfl, stamp := rfl, generation := rfl, catalogue := rfl, held := rfl, params := rfl, hli := rfl
      transactions := rfl, pool := rfl, au := rfl, pending := rfl }

section
variable (s : State) (k : SlotNo) (st : SlotState)
@[simp] theorem State.leave_held : (s.leave k st).held = s.held := (s.leave_spec k st).held
@[simp] theorem State.leave_params : (s.leave k st).params = s.params := (s.leave_spec k st).params
@[simp] theorem State.leave_hli : (s.leave k st).hli = s.hli := (s.leave_spec k st).hli
@[simp] theorem State.leave_transactions : (s.leave k st).transactions = s.transactions :=
  (s.leave_spec k st).transactions
@[simp] theorem State.leave_pool : (s.leave k st).pool = s.pool := (s.leave_spec k st).pool
@[simp] theorem State.leave_au : (s.leave k st).au = s.au := (s.leave_spec k st).au
@[simp] theorem State.leave_pending : (s.leave k st).pending = s.pending := (s.leave_spec k st).pending
@[simp] theorem State.slot_leave_self : (s.leave k st).slot k = (s.slot k).enter st := (s.leave_spec k st).self
end

/-! ## Commits (R50, R51) -/

/-- Posting a list of notices changes the Attention Unit only. -/
theorem State.foldl_post {α : Type} (f : α → NoticeKind) (l : List α) (s : State) :
    l.foldl (fun s a => s.post (f a)) s = { s with au := (l.map f).foldl AttentionUnit.post s.au } := by
  induction l generalizing s with
  | nil => rfl
  | cons a l ih => rw [List.foldl_cons, ih]; rfl

/-- The notices of a commit, in their order (R51). -/
def State.commitNotices (s : State) (mark : CommitMark) : List NoticeKind :=
  .placementCommitted (nextGeneration s.pe.generation) s.draftInputs.fittedCount s.draftInputs.unfitCount mark ::
    (s.losers s.draftInputs.draft).map fun k => .placementPending k .noSpace

/-- What a commit does (R50, R51). -/
theorem State.commit_eq (s : State) (mark : CommitMark) :
    s.commit mark =
      { s with
        pe := { s.pe with
          placement := s.draftInputs.draft
          generation := nextGeneration s.pe.generation
          stamp := nextStamp s.pe.stamp }
        slots := Vector.ofFn fun k : Fin 16 => (s.slot k).commit (windowOf s.draftInputs.draft k).isSome
        au := (s.commitNotices mark).foldl AttentionUnit.post s.au } := by
  unfold State.commit
  dsimp only
  rw [State.foldl_post]
  rfl

@[simp] theorem State.slot_commit (s : State) (mark : CommitMark) (k : SlotNo) :
    (s.commit mark).slot k = (s.slot k).commit (windowOf s.draftInputs.draft k).isSome := by
  simp [State.commit_eq, State.slot]

section
variable (s : State) (mark : CommitMark)
@[simp] theorem State.commit_held : (s.commit mark).held = s.held := by rw [State.commit_eq]
@[simp] theorem State.commit_params : (s.commit mark).params = s.params := by rw [State.commit_eq]
@[simp] theorem State.commit_hli : (s.commit mark).hli = s.hli := by rw [State.commit_eq]
@[simp] theorem State.commit_transactions : (s.commit mark).transactions = s.transactions := by rw [State.commit_eq]
@[simp] theorem State.commit_pool : (s.commit mark).pool = s.pool := by rw [State.commit_eq]
@[simp] theorem State.commit_pending : (s.commit mark).pending = s.pending := by rw [State.commit_eq]
@[simp] theorem State.commit_catalogue : (s.commit mark).pe.catalogue = s.pe.catalogue := by rw [State.commit_eq]
@[simp] theorem State.commit_placement : (s.commit mark).pe.placement = s.draftInputs.draft := by rw [State.commit_eq]
@[simp] theorem State.commit_generation : (s.commit mark).pe.generation = nextGeneration s.pe.generation := by
  rw [State.commit_eq]
@[simp] theorem State.commit_stamp : (s.commit mark).pe.stamp = nextStamp s.pe.stamp := by rw [State.commit_eq]
end

/-! ## What a join, a judgement and a release leave alone -/

/-- The steps that only place, judge or release a slot keep the Host Link, the transactions and the parameters. -/
structure State.KeepsTraffic (s s' : State) : Prop where
  held : s'.held = s.held
  params : s'.params = s.params
  hli : s'.hli = s.hli
  transactions : s'.transactions = s.transactions
  pool : s'.pool = s.pool
  pending : s'.pending = s.pending
  enabled : s'.au.enabled = s.au.enabled

theorem State.KeepsTraffic.refl (s : State) : s.KeepsTraffic s := ⟨rfl, rfl, rfl, rfl, rfl, rfl, rfl⟩

theorem State.KeepsTraffic.trans {s t u : State} (h : s.KeepsTraffic t) (g : t.KeepsTraffic u) : s.KeepsTraffic u :=
  ⟨g.held.trans h.held, g.params.trans h.params, g.hli.trans h.hli, g.transactions.trans h.transactions,
    g.pool.trans h.pool, g.pending.trans h.pending, g.enabled.trans h.enabled⟩

theorem State.modSlot_keepsTraffic (s : State) (k : SlotNo) (f : Slot → Slot) : s.KeepsTraffic (s.modSlot k f) :=
  ⟨rfl, rfl, rfl, rfl, rfl, rfl, rfl⟩

theorem State.modLane_keepsTraffic (s : State) (k : SlotNo) (f : Lane → Lane) : s.KeepsTraffic (s.modLane k f) :=
  s.modSlot_keepsTraffic k _

theorem State.post_keepsTraffic (s : State) (kind : NoticeKind) : s.KeepsTraffic (s.post kind) :=
  ⟨rfl, rfl, rfl, rfl, rfl, rfl, s.au.post_enabled kind⟩

theorem State.leave_keepsTraffic (s : State) (k : SlotNo) (st : SlotState) : s.KeepsTraffic (s.leave k st) := by
  have h := s.leave_spec k st
  exact ⟨h.held, h.params, h.hli, h.transactions, h.pool, h.pending, by rw [h.au]⟩

theorem AttentionUnit.foldl_post_enabled (l : List NoticeKind) (au : AttentionUnit) :
    (l.foldl AttentionUnit.post au).enabled = au.enabled := by
  induction l generalizing au with
  | nil => rfl
  | cons a l ih => rw [List.foldl_cons, ih, AttentionUnit.post_enabled]

theorem State.commit_keepsTraffic (s : State) (mark : CommitMark) : s.KeepsTraffic (s.commit mark) :=
  ⟨by simp, by simp, by simp, by simp, by simp, by simp, by
    rw [State.commit_eq]; exact AttentionUnit.foldl_post_enabled _ _⟩

theorem State.awaitCommit_keepsTraffic (s : State) (k : SlotNo) : s.KeepsTraffic (s.awaitCommit k) :=
  (s.post_keepsTraffic _).trans (State.post_keepsTraffic _ _)

/-- The join procedure (R42 to R46) keeps the traffic. -/
theorem State.join_keepsTraffic (s : State) (k : SlotNo) : s.KeepsTraffic (s.join k) := by
  have h0 : s.KeepsTraffic (s.modSlot k fun sl => sl.enter (.pending .awaitingCommit)).bumpStamp :=
    ⟨rfl, rfl, rfl, rfl, rfl, rfl, rfl⟩
  unfold State.join
  dsimp only
  split
  · exact h0.trans ⟨rfl, rfl, rfl, rfl, rfl, rfl, AttentionUnit.post_enabled _ _⟩
  · split
    · exact h0.trans (State.awaitCommit_keepsTraffic _ _)
    · split
      · exact h0.trans ((State.commit_keepsTraffic _ _).trans (State.post_keepsTraffic _ _))
      · exact h0.trans (State.awaitCommit_keepsTraffic _ _)

/-- Entry into FAILED for a reason other than LANE_FAULT ends no transaction (R77). -/
theorem State.enterFailed_keepsTraffic (s : State) (k : SlotNo) {reason : FailReason} (h : reason ≠ .laneFault) :
    s.KeepsTraffic (s.enterFailed k reason) := by
  unfold State.enterFailed
  simp only [h, if_false]
  exact ((s.modLane_keepsTraffic k _).trans (State.leave_keepsTraffic _ _ _)).trans (State.post_keepsTraffic _ _)

/-- The judgement of an identity (R64) keeps the traffic. -/
theorem State.judge_keepsTraffic (s : State) (k : SlotNo) (id : Identity) : s.KeepsTraffic (s.judge k id) := by
  unfold State.judge
  split
  · exact s.modSlot_keepsTraffic k _
  · split
    · exact s.enterFailed_keepsTraffic k (by decide)
    · exact s.join_keepsTraffic k

theorem State.newJoin_keepsTraffic (s : State) (k : SlotNo) (id : Identity) : s.KeepsTraffic (s.newJoin k id) :=
  (s.modSlot_keepsTraffic k _).trans (State.judge_keepsTraffic _ _ _)

theorem State.rejudge_keepsTraffic (s : State) (k : SlotNo) : s.KeepsTraffic (s.rejudge k) := by
  unfold State.rejudge
  split
  · exact s.judge_keepsTraffic k _
  · exact .refl s

theorem State.endRelease_keepsTraffic (s : State) (k : SlotNo) (outcome : ReleaseOutcome) :
    s.KeepsTraffic (s.endRelease k outcome) :=
  (s.leave_keepsTraffic k _).trans (State.post_keepsTraffic _ _)

/-! ## Every operation keeps the parameters, the reset and the queue of commands -/

/-- What no operation inside a step changes: whether the reset is applied, the parameters, the Event Enable map, and
the queue of commands. -/
structure State.KeepsFixed (s s' : State) : Prop where
  held : s'.held = s.held
  params : s'.params = s.params
  enabled : s'.au.enabled = s.au.enabled
  pending : s'.pending = s.pending

theorem State.KeepsFixed.refl (s : State) : s.KeepsFixed s := ⟨rfl, rfl, rfl, rfl⟩

theorem State.KeepsFixed.trans {s t u : State} (h : s.KeepsFixed t) (g : t.KeepsFixed u) : s.KeepsFixed u :=
  ⟨g.held.trans h.held, g.params.trans h.params, g.enabled.trans h.enabled, g.pending.trans h.pending⟩

theorem State.KeepsTraffic.fixed {s t : State} (h : s.KeepsTraffic t) : s.KeepsFixed t :=
  ⟨h.held, h.params, h.enabled, h.pending⟩

theorem State.EndsAll.fixed {s t : State} {ts : List Transaction} {f : Transaction → Reply} (h : s.EndsAll t ts f) :
    s.KeepsFixed t := ⟨h.held, h.params, by rw [h.au], h.pending⟩

theorem State.endTenure_keepsFixed (s : State) (k : SlotNo) (status : Status) : s.KeepsFixed (s.endTenure k status) :=
  (s.endTenure_spec k status).fixed

theorem State.enterFailed_keepsFixed (s : State) (k : SlotNo) (reason : FailReason) :
    s.KeepsFixed (s.enterFailed k reason) := by
  by_cases h : reason = .laneFault
  · unfold State.enterFailed
    simp only [h, if_true]
    exact (s.endTenure_keepsFixed k _).trans (((State.modLane_keepsTraffic _ k _).trans
      (State.leave_keepsTraffic _ _ _)).trans (State.post_keepsTraffic _ _)).fixed
  · exact (s.enterFailed_keepsTraffic k h).fixed

theorem State.countFailure_keepsFixed (s : State) (k : SlotNo) : s.KeepsFixed (s.countFailure k) := by
  unfold State.countFailure
  dsimp only
  split
  · exact ((s.modSlot_keepsTraffic k _).trans (State.modLane_keepsTraffic _ _ _)).fixed
  · exact (s.modSlot_keepsTraffic k _).fixed.trans (State.enterFailed_keepsFixed _ _ _)

theorem State.resyncIdent_keepsFixed (s : State) (k : SlotNo) (id : Identity) : s.KeepsFixed (s.resyncIdent k id) := by
  unfold State.resyncIdent
  split
  · exact (s.modSlot_keepsTraffic k _).fixed
  · exact (s.endTenure_keepsFixed k _).trans (((State.leave_keepsTraffic _ k _).trans
      (State.post_keepsTraffic _ _)).trans (State.newJoin_keepsTraffic _ _ _)).fixed

theorem State.losePresence_keepsFixed (s : State) (k : SlotNo) : s.KeepsFixed (s.losePresence k) := by
  unfold State.losePresence
  exact (s.endTenure_keepsFixed k _).trans ((((State.modLane_keepsTraffic _ k _).trans
    (State.leave_keepsTraffic _ _ _)).trans (State.post_keepsTraffic _ _)).trans
    (State.modSlot_keepsTraffic _ _ _)).fixed

end Sys2Proof.Machine
end

