-- ==== Sys2Proof/Laws/Lanes.lean ====
section
/-! SUPPORT. What the lane engine, the exchanges, the accesses and the link operations change and leave alone. -/

namespace Sys2Proof.Machine

/-! ## The lane engine (R86, R87) -/

/-- A lane's own work touches its Slot Controller and the states of transactions, and nothing else. -/
structure State.LaneWork (s s' : State) (k : SlotNo) : Prop where
  held : s'.held = s.held
  params : s'.params = s.params
  hli : s'.hli = s.hli
  pe : s'.pe = s.pe
  others : ∀ j, j ≠ k → s'.slot j = s.slot j
  pool : s'.pool = s.pool
  au : s'.au = s.au
  pending : s'.pending = s.pending

theorem State.LaneWork.refl (s : State) (k : SlotNo) : s.LaneWork s k :=
  ⟨rfl, rfl, rfl, rfl, fun _ _ => rfl, rfl, rfl, rfl⟩

theorem State.LaneWork.trans {s t u : State} {k : SlotNo} (h : s.LaneWork t k) (g : t.LaneWork u k) : s.LaneWork u k :=
  ⟨g.held.trans h.held, g.params.trans h.params, g.hli.trans h.hli, g.pe.trans h.pe,
    fun j hj => (g.others j hj).trans (h.others j hj), g.pool.trans h.pool, g.au.trans h.au,
    g.pending.trans h.pending⟩

theorem State.LaneWork.fixed {s t : State} {k : SlotNo} (h : s.LaneWork t k) : s.KeepsFixed t :=
  ⟨h.held, h.params, by rw [h.au], h.pending⟩

theorem State.modSlot_laneWork (s : State) (k : SlotNo) (f : Slot → Slot) : s.LaneWork (s.modSlot k f) k :=
  ⟨rfl, rfl, rfl, rfl, fun _ hj => State.slot_modSlot_ne _ _ hj, rfl, rfl, rfl⟩

theorem State.modLane_laneWork (s : State) (k : SlotNo) (f : Lane → Lane) : s.LaneWork (s.modLane k f) k :=
  s.modSlot_laneWork k _

theorem State.setTransactionState_laneWork (s : State) (k : SlotNo) (tag : Byte) (st : TransactionState) :
    s.LaneWork (s.setTransactionState tag st) k := ⟨rfl, rfl, rfl, rfl, fun _ _ => rfl, rfl, rfl, rfl⟩

theorem State.laneTransmit_laneWork (s : State) (k : SlotNo) : s.LaneWork (s.laneTransmit k) k := by
  unfold State.laneTransmit
  dsimp only
  split
  · exact .refl s k
  · exact s.modLane_laneWork k _
  · split
    · exact s.modLane_laneWork k _
    · exact .refl s k
  · exact .refl s k

/-- The lane transmitter takes no transaction from the table (R86). -/
@[simp] theorem State.laneTransmit_transactions (s : State) (k : SlotNo) :
    (s.laneTransmit k).transactions = s.transactions := by
  unfold State.laneTransmit
  dsimp only
  split
  · rfl
  · rfl
  · split <;> rfl
  · rfl

theorem State.exchangeBegun_laneWork (s : State) (k : SlotNo) (kind : ExchangeKind) :
    s.LaneWork (s.exchangeBegun k kind) k := by
  unfold State.exchangeBegun
  split
  · exact .refl s k
  · exact s.modLane_laneWork k _
  · exact s.setTransactionState_laneWork k _ _
  · exact s.setTransactionState_laneWork k _ _
  · exact s.modSlot_laneWork k _

theorem State.advance_laneWork (s : State) (k : SlotNo) : s.LaneWork (s.advance k) k := by
  unfold State.advance
  dsimp only
  refine State.LaneWork.trans ?_ (State.laneTransmit_laneWork _ k)
  split
  · exact .refl s k
  · split
    · exact (s.modLane_laneWork k _).trans (State.exchangeBegun_laneWork _ k _)
    · exact .refl s k

/-- The next exchange is the first row of R87 whose condition holds. -/
theorem State.nextExchange_cases (s : State) (k : SlotNo) (kind : ExchangeKind) (h : s.nextExchange k = some kind) :
    ((s.slot k).state = .probing ∧ kind = .probe .first) ∨
    ((s.slot k).lane.resyncRequired = true ∧ kind = .probe .resync) ∨
    ((s.slot k).lane.resyncRequired = false ∧ (s.slot k).state.participates = true ∧
      ∃ t, s.oldestWaiting k = some t ∧ kind = t.exchangeKind) ∨
    ((s.slot k).lane.resyncRequired = false ∧ (s.slot k).state = .draining false ∧ s.laneQueue k = [] ∧
      kind = .halt) := by
  unfold State.nextExchange at h
  dsimp only at h
  split at h
  · rename_i hp; exact .inl ⟨hp, by injection h with h; exact h.symm⟩
  · split at h
    · rename_i hr; exact .inr (.inl ⟨hr, by injection h with h; exact h.symm⟩)
    · rename_i hr
      have hr' : (s.slot k).lane.resyncRequired = false := by simpa using hr
      split at h
      · rename_i t ht
        split at ht
        · rename_i hpart
          exact .inr (.inr (.inl ⟨hr', hpart, t, ht, by injection h with h; exact h.symm⟩))
        · cases ht
      · split at h
        · rename_i hd
          exact .inr (.inr (.inr ⟨hr', hd.1, by simpa using hd.2, by injection h with h; exact h.symm⟩))
        · cases h

/-! ## Ends of exchanges -/

theorem State.reply_keepsFixed (s : State) (code tag : Byte) (st : Status) (f : ReplyFields) :
    s.KeepsFixed (s.reply code tag st f) := ⟨rfl, rfl, rfl, rfl⟩

theorem State.answer_keepsFixed (s : State) (r : HostRequest) (st : Status) (f : ReplyFields) :
    s.KeepsFixed (s.answer r st f) := ⟨rfl, rfl, rfl, rfl⟩

theorem State.modSlot_keepsFixed (s : State) (k : SlotNo) (f : Slot → Slot) : s.KeepsFixed (s.modSlot k f) :=
  ⟨rfl, rfl, rfl, rfl⟩

theorem State.modLane_keepsFixed (s : State) (k : SlotNo) (f : Lane → Lane) : s.KeepsFixed (s.modLane k f) :=
  ⟨rfl, rfl, rfl, rfl⟩

theorem State.countLane_keepsFixed (s : State) (k : SlotNo) (f : LaneCounters → LaneCounters) :
    s.KeepsFixed (s.countLane k f) := ⟨rfl, rfl, rfl, rfl⟩

theorem State.advance_keepsFixed (s : State) (k : SlotNo) : s.KeepsFixed (s.advance k) := (s.advance_laneWork k).fixed

theorem State.withTransaction_keepsFixed (s : State) (tag : Byte) (f : State → Transaction → State)
    (hf : ∀ t, s.KeepsFixed (f s t)) : s.KeepsFixed (s.withTransaction tag f) := by
  unfold State.withTransaction
  split
  · exact hf _
  · exact .refl s

theorem State.failAccess_keepsFixed (s : State) (k : SlotNo) (tag : Byte) (st : Status) :
    s.KeepsFixed (s.failAccess k tag st) :=
  (s.withTransaction_keepsFixed tag _ fun _ => ⟨rfl, rfl, rfl, rfl⟩).trans (State.countFailure_keepsFixed _ k)

theorem State.failExchange_keepsFixed (s : State) (k : SlotNo) (x : Exchange) (st : Status) :
    s.KeepsFixed (s.failExchange k x st) := by
  unfold State.failExchange
  dsimp only
  refine (s.modLane_keepsFixed k Lane.endUnmatched).trans ?_
  split
  · exact State.enterFailed_keepsFixed _ k _
  · exact State.countFailure_keepsFixed _ k
  · exact State.failAccess_keepsFixed _ k _ _
  · exact State.failAccess_keepsFixed _ k _ _
  · split
    · exact State.modLane_keepsFixed _ k _
    · exact (State.endRelease_keepsTraffic _ k _).fixed

theorem State.endCancelledExchange_keepsFixed (s : State) (k : SlotNo) (x : Exchange) :
    s.KeepsFixed (s.endCancelledExchange k x) := by
  unfold State.endCancelledExchange
  dsimp only
  split
  · exact (s.modLane_keepsFixed k _).trans (State.withTransaction_keepsFixed _ _ _ fun _ => ⟨rfl, rfl, rfl, rfl⟩)
  · exact s.modLane_keepsFixed k _

theorem State.expireCancelled_keepsFixed (s : State) (k : SlotNo) (x : Exchange) :
    s.KeepsFixed (s.expireCancelled k x) :=
  (s.countLane_keepsFixed k _).trans (State.endCancelledExchange_keepsFixed _ k x)

theorem State.completeTransaction_keepsFixed (s : State) (t : Transaction) (f : LaneFrame) :
    s.KeepsFixed (s.completeTransaction t f) := by
  unfold State.completeTransaction
  split
  · exact ⟨rfl, rfl, rfl, rfl⟩
  · split <;> exact ⟨rfl, rfl, rfl, rfl⟩

theorem State.endAccess_keepsFixed (s : State) (x : Exchange) (tag : Byte) (f : LaneFrame) :
    s.KeepsFixed (s.endAccess x tag f) := by
  refine s.withTransaction_keepsFixed tag _ fun t => ?_
  split
  · exact ⟨rfl, rfl, rfl, rfl⟩
  · exact s.completeTransaction_keepsFixed t f

theorem State.matchedAnswer_keepsFixed (s : State) (k : SlotNo) (x : Exchange) (f : LaneFrame) :
    s.KeepsFixed (s.matchedAnswer k x f) := by
  unfold State.matchedAnswer
  dsimp only
  have h := s.modSlot_keepsFixed k fun sl => { sl with failures := 0, lane := sl.lane.endMatched x.kind }
  split
  · exact h.trans (State.newJoin_keepsTraffic _ k _).fixed
  · exact (h.trans (State.modLane_keepsFixed _ k _)).trans (State.resyncIdent_keepsFixed _ k _)
  · exact h.trans (State.endAccess_keepsFixed _ _ _ _)
  · exact h.trans (State.endAccess_keepsFixed _ _ _ _)
  · split
    · exact h.trans (State.modLane_keepsFixed _ k _)
    · exact h.trans (State.endRelease_keepsTraffic _ k _).fixed

theorem State.judgeAnswer_keepsFixed (s : State) (k : SlotNo) (f : LaneFrame) : s.KeepsFixed (s.judgeAnswer k f) := by
  unfold State.judgeAnswer
  dsimp only
  split
  · exact s.countLane_keepsFixed k _
  · split
    · exact s.countLane_keepsFixed k _
    · split
      · exact s.countLane_keepsFixed k _
      · split
        · exact s.matchedAnswer_keepsFixed k _ f
        · unfold State.wrongAnswer
          dsimp only
          split
          · exact (s.countLane_keepsFixed k _).trans (State.expireCancelled_keepsFixed _ k _)
          · exact (s.countLane_keepsFixed k _).trans (State.failExchange_keepsFixed _ k _ _)

/-! ## Events (R97 to R100) -/

theorem State.newEvent_keepsFixed (s : State) (k : SlotNo) (f : LaneFrame) : s.KeepsFixed (s.newEvent k f) := by
  unfold State.newEvent
  dsimp only
  split
  · exact ⟨rfl, rfl, rfl, rfl⟩
  · split
    · exact ⟨rfl, rfl, rfl, rfl⟩
    · split
      · exact ⟨rfl, rfl, rfl, rfl⟩
      · split <;> exact ⟨rfl, rfl, rfl, rfl⟩

theorem State.judgeEvent_keepsFixed (s : State) (k : SlotNo) (f : LaneFrame) : s.KeepsFixed (s.judgeEvent k f) := by
  unfold State.judgeEvent
  dsimp only
  split
  · exact ⟨rfl, rfl, rfl, rfl⟩
  · split
    · exact ⟨rfl, rfl, rfl, rfl⟩
    · exact ⟨rfl, rfl, rfl, rfl⟩
    · split
      · exact ⟨rfl, rfl, rfl, rfl⟩
      · exact s.newEvent_keepsFixed k f

theorem State.judgeFrame_keepsFixed (s : State) (k : SlotNo) (received : List Byte) :
    s.KeepsFixed (s.judgeFrame k received) := by
  unfold State.judgeFrame
  split
  · exact ⟨rfl, rfl, rfl, rfl⟩
  · split
    · exact ⟨rfl, rfl, rfl, rfl⟩
    · dsimp only
      split
      · exact (s.countLane_keepsFixed k _).trans (State.judgeEvent_keepsFixed _ k _)
      · exact (s.countLane_keepsFixed k _).trans (State.judgeAnswer_keepsFixed _ k _)

theorem State.setLaneReceiver_keepsFixed (s : State) (k : SlotNo) (r : LaneReceiver) :
    s.KeepsFixed (s.setLaneReceiver k r) := s.modLane_keepsFixed k _

theorem State.countUngood_keepsFixed (s : State) (k : SlotNo) : s.KeepsFixed (s.countUngood k) :=
  s.countLane_keepsFixed k _

theorem State.takeLaneByte_keepsFixed (s : State) (k : SlotNo) (b : Byte) : s.KeepsFixed (s.takeLaneByte k b) := by
  unfold State.takeLaneByte
  split
  · exact .refl s
  · exact s.setLaneReceiver_keepsFixed k _
  · exact (s.setLaneReceiver_keepsFixed k _).trans (State.countUngood_keepsFixed _ k)
  · exact ((s.setLaneReceiver_keepsFixed k _).trans (State.judgeFrame_keepsFixed _ k _)).trans
      (State.advance_keepsFixed _ k)

theorem State.replyExpired_keepsFixed (s : State) (k : SlotNo) (x : Exchange) : s.KeepsFixed (s.replyExpired k x) := by
  unfold State.replyExpired
  split
  · exact s.expireCancelled_keepsFixed k x
  · split
    · exact s.modLane_keepsFixed k _
    · exact (s.countLane_keepsFixed k _).trans (State.failExchange_keepsFixed _ k x _)

/-! ## The Host Link (R144 to R148) -/

/-- The receiver's work touches the Host Link only. -/
structure State.LinkWork (s s' : State) : Prop where
  held : s'.held = s.held
  params : s'.params = s.params
  pe : s'.pe = s.pe
  slots : s'.slots = s.slots
  transactions : s'.transactions = s.transactions
  pool : s'.pool = s.pool
  au : s'.au = s.au
  pending : s'.pending = s.pending
  replies : s'.hli.replies = s.hli.replies
  sending : s'.hli.sending = s.hli.sending
  sinceNotice : s'.hli.sinceNotice = s.hli.sinceNotice

theorem State.refuse_linkWork (s : State) (r : HostRequest) (status : Status) : s.LinkWork (s.refuse r status) := by
  unfold State.refuse
  split <;> exact ⟨rfl, rfl, rfl, rfl, rfl, rfl, rfl, rfl, rfl, rfl, rfl⟩

theorem State.arrive_linkWork (s : State) (r : HostRequest) : s.LinkWork (s.arrive r) := by
  unfold State.arrive
  split
  · exact s.refuse_linkWork r _
  · split
    · exact s.refuse_linkWork r _
    · exact ⟨rfl, rfl, rfl, rfl, rfl, rfl, rfl, rfl, rfl, rfl, rfl⟩

theorem State.takeHostByte_linkWork (s : State) (b : Byte) : s.LinkWork (s.takeHostByte b) := by
  unfold State.takeHostByte
  split
  · exact ⟨rfl, rfl, rfl, rfl, rfl, rfl, rfl, rfl, rfl, rfl, rfl⟩
  · exact ⟨rfl, rfl, rfl, rfl, rfl, rfl, rfl, rfl, rfl, rfl, rfl⟩
  · unfold State.judgeHostFrame
    dsimp only
    split
    · have h := State.arrive_linkWork
        ((s.setReceiver .hunting).countLink fun c => { c with goodFrames := bump c.goodFrames })
      exact ⟨(h _).held, (h _).params, (h _).pe, (h _).slots, (h _).transactions, (h _).pool, (h _).au, (h _).pending,
        (h _).replies, (h _).sending, (h _).sinceNotice⟩
    · exact ⟨rfl, rfl, rfl, rfl, rfl, rfl, rfl, rfl, rfl, rfl, rfl⟩

/-! ## Restart (R162) -/

/-- Ending the transactions of every lane in turn ends all of them in slot order and leaves the rest alone (R118). -/
theorem State.abortQueues_keeps (l : List SlotNo) (s : State) :
    let t := l.foldl (fun s k => s.abortQueue k) s
    t.held = s.held ∧ t.params = s.params ∧ t.pe = s.pe ∧ t.slots = s.slots ∧ t.au = s.au ∧ t.pending = s.pending ∧
      t.hli = { s.hli with replies := t.hli.replies } := by
  induction l generalizing s with
  | nil => exact ⟨rfl, rfl, rfl, rfl, rfl, rfl, rfl⟩
  | cons k l ih =>
    have h := s.abortQueue_spec k
    obtain ⟨h1, h2, h3, h4, h5, h6, h7⟩ := ih (s.abortQueue k)
    refine ⟨h1.trans h.held, h2.trans h.params, h3.trans h.pe, h4.trans h.slots, h5.trans h.au, h6.trans h.pending, ?_⟩
    rw [List.foldl_cons, h7, h.hli]

/-! ## Accesses (R110, R111) -/

theorem State.accept_keepsFixed (s : State) (tag : Byte) (kind : AccessKind) (k : SlotNo) (offset count : Nat)
    (data : List Word) : s.KeepsFixed (s.accept tag kind k offset count data) := by
  unfold State.accept
  have h := fun u : State => State.advance_keepsFixed u k
  exact ⟨(h _).held, (h _).params, (h _).enabled, (h _).pending⟩

theorem State.serveAccess_keepsFixed (s : State) (r : HostRequest) (kind : AccessKind) (view address count : Nat)
    (data : List Word) : s.KeepsFixed (s.serveAccess r kind view address count data) := by
  unfold State.serveAccess
  split
  · exact ⟨rfl, rfl, rfl, rfl⟩
  · exact ⟨rfl, rfl, rfl, rfl⟩
  · split
    · exact ⟨rfl, rfl, rfl, rfl⟩
    · exact s.accept_keepsFixed _ _ _ _ _ _

end Sys2Proof.Machine
end

