-- ==== Sys2Proof/Laws/PerInstr.lean ====
section
/-! SUPPORT. Families of statements about each command as syntax, with one lemma per command. -/

namespace Sys2Proof.Laws.WellFormedExactly

/-- A command is well formed exactly when the slot number it names, if it names one, is one of the sixteen (R59), and the line
it carries, if it carries one, begins with a start bit (R142). -/
def Statement (i : Instr) : Prop :=
  i.WellFormed = true ↔ (∀ k, i.slot? = some k → k < 16) ∧ ∀ line, i.line? = some line → line.start = false

/-- A command that names no slot and carries no byte is well formed. -/
theorem of_none {i : Instr} (noSlot : i.slot? = none) (noLine : i.line? = none) : Statement i := by
  simp [Statement, Instr.WellFormed, noSlot, noLine]

/-- A command that names a slot and carries no byte is well formed when its number is below 16. -/
theorem of_slot {i : Instr} {k : Nat} (slot : i.slot? = some k) (noLine : i.line? = none) : Statement i := by
  simp [Statement, Instr.WellFormed, slot, noLine]
  exact Iff.rfl

theorem powerOnReset : Statement .powerOnReset := of_none rfl rfl
theorem gapTimerExpiry : Statement .gapTimerExpiry := of_none rfl rfl
theorem hostFrameSent : Statement .hostFrameSent := of_none rfl rfl
theorem unknownRequest : Statement .unknownRequest := of_none rfl rfl
theorem queryPart : Statement .queryPart := of_none rfl rfl
theorem setParameters : Statement .setParameters := of_none rfl rfl
theorem readParameters : Statement .readParameters := of_none rfl rfl
theorem restart : Statement .restart := of_none rfl rfl
theorem defineClass : Statement .defineClass := of_none rfl rfl
theorem dropClass : Statement .dropClass := of_none rfl rfl
theorem readClass : Statement .readClass := of_none rfl rfl
theorem readPlacement : Statement .readPlacement := of_none rfl rfl
theorem readDraft : Statement .readDraft := of_none rfl rfl
theorem commitPlacement : Statement .commitPlacement := of_none rfl rfl
theorem readSlot : Statement .readSlot := of_none rfl rfl
theorem resetSlot : Statement .resetSlot := of_none rfl rfl
theorem releaseSlot : Statement .releaseSlot := of_none rfl rfl
theorem accessRead : Statement .accessRead := of_none rfl rfl
theorem accessWrite : Statement .accessWrite := of_none rfl rfl
theorem cancelAccess : Statement .cancelAccess := of_none rfl rfl
theorem acknowledgeNotices : Statement .acknowledgeNotices := of_none rfl rfl
theorem resendNotices : Statement .resendNotices := of_none rfl rfl
theorem setEventEnable : Statement .setEventEnable := of_none rfl rfl
theorem readCounters : Statement .readCounters := of_none rfl rfl
theorem hostByteReceived (line : LineByte) : Statement (.hostByteReceived line) := by
  simp [Statement, Instr.WellFormed, Instr.slot?, Instr.line?]
theorem presenceRise (k : Nat) : Statement (.presenceRise k) := of_slot rfl rfl
theorem presenceLoss (k : Nat) : Statement (.presenceLoss k) := of_slot rfl rfl
theorem settlePeriodExpiry (k : Nat) : Statement (.settlePeriodExpiry k) := of_slot rfl rfl
theorem laneSilenceTimeout (k : Nat) : Statement (.laneSilenceTimeout k) := of_slot rfl rfl
theorem replyTimeExpiry (k : Nat) : Statement (.replyTimeExpiry k) := of_slot rfl rfl
theorem laneFrameSent (k : Nat) : Statement (.laneFrameSent k) := of_slot rfl rfl
theorem laneByteReceived (k : Nat) (line : LineByte) : Statement (.laneByteReceived k line) := by
  simp [Statement, Instr.WellFormed, Instr.slot?, Instr.line?]
  exact fun _ => Iff.rfl
theorem resetEnd (rate1 rate0 : Bool) (presence : BitVec 16) : Statement (.resetEnd rate1 rate0 presence) :=
  of_none rfl rfl

end Sys2Proof.Laws.WellFormedExactly
end

