-- ==== Sys2Proof/Tests/Slice0.lean ====
section
/-! SUPPORT. Tests of single steps against the worked examples and tables of spec/, and a witness for the hypotheses of each statement that has some. -/

namespace Sys2Proof.Tests

-- One test at a time: many evaluations side by side take a thread and its stack each.
set_option Elab.async false

open Sys2Proof.Machine

/-! ## Builders -/

/-- The state after a command. -/
def after (c : Instr) (s : State) : State :=
  match exec c s with
  | .next t => t
  | .fault _ => s
  | .refused _ => s

/-- A state with one request, of tag 0x11, in its Host Request Queue. -/
def offering (s : State) (code : Byte) (fields : List Byte) : State :=
  { s with hli := { s.hli with requests := [⟨code, 0x11, fields⟩] } }

/-- That request can be taken while the part runs and few replies are owed. -/
theorem offers_offering {s : State} (code : Byte) (fields : List Byte) (running : s.held = false) (room : s.owed < 48) :
    (offering s code fields).Offers ⟨code, 0x11, fields⟩ := ⟨running, room, rfl⟩

/-- Status and fields of the newest reply. -/
def answered (s : State) : Option (Status × ReplyFields) := s.hli.replies.getLast?.map fun r => (r.status, r.fields)

/-- A state with one Slot Controller, that of slot 4, replaced. -/
def with4 (s : State) (sl : Slot) : State := { s with slots := s.slots.set 4 sl }

/-- A state with the lane of slot 4 replaced. -/
def lane4 (s : State) (f : Lane → Lane) : State := with4 s { s.slot 4 with lane := f (s.slot 4).lane }

/-- A state with its Host Link changed. -/
def link (s : State) (f : HostLink → HostLink) : State := { s with hli := f s.hli }

/-! ## The rack of 11.1 after its commit -/

def class71 : ClassEntry := ⟨0x7100, 0, 128, 7, 2, 1, none⟩
def class72 : ClassEntry := ⟨0x7200, 1, 64, 6, 4, 0, some 8192⟩

/-- The entries of the table in 11.1. -/
def layout : List Entry :=
  [⟨.window 0, 256, 128, 0x7100, false, some ⟨0, 2⟩⟩, ⟨.window 1, 384, 128, 0x7100, false, some ⟨2, 2⟩⟩,
    ⟨.reserve, 512, 128, 0x7100, false, some ⟨4, 2⟩⟩, ⟨.fence, 640, 1, 0x7100, false, none⟩,
    ⟨.window 4, 8192, 64, 0x7200, true, some ⟨8, 4⟩⟩]

def moduleIn (st : SlotState) (code events : Nat) : Slot :=
  { Slot.powerOn with presence := true, state := st, identity := some ⟨code, events, 1, none⟩, joinCount := 1 }

def rackSlots (st : SlotState) : Vector Slot 16 :=
  Vector.ofFn fun k : Fin 16 =>
    if k = 0 ∨ k = 1 then moduleIn st 0x7100 2 else if k = 4 then moduleIn st 0x7200 4 else Slot.powerOn

/-- Slots 0, 1 and 4 are PLACED, generation 1, stamp 6. -/
def rack : State :=
  { State.reset with pe := ⟨[class71, class72], layout, 1, 6⟩, slots := rackSlots .placed }

/-- The same rack before its commit: the three slots wait, generation 0, stamp 5. -/
def uncommitted : State :=
  { State.reset with pe := ⟨[class71, class72], [], 0, 5⟩, slots := rackSlots (.pending .awaitingCommit) }

/-- An access of slot 4 in some state. -/
def access (kind : AccessKind) (st : TransactionState) : Transaction :=
  ⟨0x22, kind, 4, 0, 1, [0], st, 1⟩

/-- A state with one transaction, that access. -/
def holding (s : State) (t : Transaction) : State :=
  { s with transactions := [t], pool := s.pool.setOwner [0] (.transaction t.tag) }

/-- An exchange of a kind, just sent. -/
def sentOnce (kind : ExchangeKind) : Exchange := ⟨kind, false, 1, false, some 20, false, false⟩

/-- The rack with an exchange on lane 4. -/
def exchanging (s : State) (x : Exchange) : State := lane4 s fun l => { l with exchange := some x }

/-- A line whose levels give a byte, with a start bit and a stop bit. -/
def onLine (start : Bool) (b : Byte) (stop : Bool) : LineByte := { lineOfByte b with start := start, stop := stop }

/-! ## WellFormed refuses a slot number of 16, and takes 15; it refuses a line without a start bit -/

theorem test_slot_16_is_ill_formed :
    (Instr.presenceRise 16).WellFormed = false ∧ (Instr.presenceLoss 16).WellFormed = false ∧
    (Instr.settlePeriodExpiry 16).WellFormed = false ∧ (Instr.laneByteReceived 16 (lineOfByte 0)).WellFormed = false ∧
    (Instr.laneSilenceTimeout 16).WellFormed = false ∧ (Instr.replyTimeExpiry 16).WellFormed = false ∧
    (Instr.laneFrameSent 16).WellFormed = false := by decide

theorem test_slot_15_is_well_formed :
    (Instr.presenceRise 15).WellFormed = true ∧ (Instr.laneFrameSent 15).WellFormed = true ∧
    Instr.powerOnReset.WellFormed = true := by decide

theorem test_no_start_bit_is_ill_formed :
    (Instr.hostByteReceived (onLine true 0xA5 true)).WellFormed = false ∧
    (Instr.laneByteReceived 4 (onLine true 0xC3 true)).WellFormed = false ∧
    (Instr.hostByteReceived (onLine false 0xA5 true)).WellFormed = true ∧
    (Instr.laneByteReceived 4 (onLine false 0xC3 false)).WellFormed = true := by decide

/-- The table gives its rows no bits, so no word spells a command. -/
theorem test_no_word_spells_a_command : decodeTableWord 8 0 = none ∧ decodeTableWord 0 0 = none := by decide

/-! ## Formats and packing -/

/-- The check value of CRC-16 with these parameters over the nine digits is 0x29B1 (a published value, outside spec/). -/
theorem test_crc : crc16 [0x31, 0x32, 0x33, 0x34, 0x35, 0x36, 0x37, 0x38, 0x39] = 0x29B1#16 := by decide +kernel

/-- The catalogue and the participating slots of 2.7. -/
def rack27 : DraftInputs :=
  ⟨[⟨0x0A10, 0, 64, 6, 3, 0, some 1024⟩, ⟨0x0B20, 1, 256, 8, 8, 1, none⟩, ⟨0x0C30, 2, 48, 4, 0, 1, none⟩,
      ⟨0x0D40, 3, 512, 9, 5, 0, some 8192⟩, ⟨0x0E50, 5, 128, 7, 1, 0, none⟩], 256,
    [⟨1, 0x0B20⟩, ⟨2, 0x0A10⟩, ⟨4, 0x0B20⟩, ⟨6, 0x0C30⟩, ⟨9, 0x0A10⟩, ⟨11, 0x0C30⟩]⟩

/-- The draft of 2.7 in base order: base, size, slot and event range of each entry. -/
theorem test_worked_packing :
    (rack27.draft.map fun e => (e.base, e.size, e.kind.slot?, e.events)) =
      [(256, 64, some 9, some ⟨4, 3⟩), (320, 1, none, none), (512, 256, some 1, some ⟨8, 8⟩),
        (768, 256, some 4, some ⟨16, 8⟩), (1024, 64, some 2, some ⟨0, 3⟩), (1280, 256, none, some ⟨24, 8⟩),
        (1536, 1, none, none), (1552, 48, some 6, none), (1600, 48, some 11, none), (1648, 48, none, none),
        (1696, 1, none, none), (8192, 512, none, some ⟨32, 5⟩)] ∧
    rack27.fittedCount = 6 ∧ rack27.unfitCount = 0 := by decide +kernel

/-! ## One step of each command -/

/-- R165: whatever stood before, the blocks are at their power-on values. -/
theorem test_powerOnReset :
    let t := after .powerOnReset rack
    t.held = true ∧ t.pe.generation = 0 ∧ t.pe.placement = [] ∧ (t.slot 4).state = .empty := by decide

/-- R81, R142: RATE1 low and RATE0 high give 460,800; the slots of the high lines settle for 100 ms. -/
theorem test_resetEnd :
    let t := after (.resetEnd false true 0x8001) (State.powerOn [])
    t.hli.bitRate = 460800 ∧ (t.slot 0).state = .settling ∧ (t.slot 15).settle = some 100 ∧ (t.slot 1).state = .empty := by
  decide

/-- R142: the start bit, the bits of 0xA5 least significant first, the stop bit; and the data bits are taken back. -/
theorem test_serial_form :
    frameLevels [0xA5] = [false, true, false, true, false, false, true, false, true, true] ∧
    byteOnLine ⟨false, #v[true, false, false, false, false, false, false, false], true⟩ = 1 := by decide

/-- R142: a stop bit that is low. R144: a length of 2 is out of range and returns the receiver to HUNTING. -/
theorem test_hostByteReceived :
    (after (.hostByteReceived (onLine false 0xA5 false)) rack).hli.receiver = .awaitingLength 10 ∧
    let t := after (.hostByteReceived (lineOfByte 2)) (link rack fun h => { h with receiver := .awaitingLength 10 })
    t.hli.receiver = .hunting ∧ t.hli.counters = ⟨0, 0, 1, 0, 0⟩ := by decide

/-- R145. -/
theorem test_gapTimerExpiry :
    let t := after .gapTimerExpiry (link rack fun h => { h with receiver := .body 10 3 [1, 2] })
    t.hli.receiver = .hunting ∧ t.hli.counters = ⟨0, 0, 0, 1, 0⟩ := by decide

/-- R152: the refusal slot is emptied and the frame counts for the arbiter. -/
theorem test_hostFrameSent :
    let t := after .hostFrameSent (link rack fun h =>
      { h with refusal := some ⟨0x81, 0x11, .queueFull⟩, sending := some ⟨.refusal, []⟩ })
    t.hli.refusal = none ∧ t.hli.sinceNotice = 1 ∧ t.hli.sending = none := by decide

/-- R150: 0x05 is no request code; a Query Part has a body of 3 bytes. -/
theorem test_unknownRequest :
    answered (after .unknownRequest (offering rack 0x05 [0])) = some (.unknownRequest, .none) ∧
    answered (after .unknownRequest (offering rack 0x01 [0, 0])) = some (.badFormat, .none) := by decide

/-- 11.1, step 1. -/
theorem test_queryPart :
    answered (after .queryPart (offering State.reset 0x01 [0])) = some (.ok, .part ⟨0, 0, .fillOnly, 96, 0⟩) := by
  decide +kernel

/-- 11.1, step 3: the power-on values leave the stamp at 0. R157: a Settle Time of 9 is out of range. -/
theorem test_setParameters :
    answered (after .setParameters (offering State.reset 0x02 [0, 1, 0, 0, 100, 20, 2, 3, 8, 10])) =
      some (.ok, .stamp 0) ∧
    answered (after .setParameters (offering State.reset 0x02 [0, 1, 0, 0, 9, 20, 2, 3, 8, 10])) =
      some (.badParam, .none) := by decide

/-- R157: the power-on values. -/
theorem test_readParameters :
    answered (after .readParameters (offering State.reset 0x03 [0])) =
      some (.ok, .params ⟨.fillOnly, 256, 100, 20, 2, 3, 8, 10⟩) := by decide

/-- R162: generation and stamp go on by 1, and an occupied slot settles again. -/
theorem test_restart :
    let t := after .restart (offering rack 0x04 [0])
    answered t = some (.ok, .restart .keepCatalogue 2 7 0 1) ∧ t.pe.catalogue = [class71, class72] ∧
    t.pe.placement = [] ∧ (t.slot 4).state = .settling := by decide +kernel

/-- 11.1, step 4. -/
theorem test_defineClass :
    let s := { State.reset with slots := rackSlots .unknownClass }
    let t := after .defineClass (offering s 0x08 [0x71, 0, 0, 0, 128, 7, 2, 1, 0, 0, 0])
    answered t = some (.ok, .defined .created 2 3) ∧ t.pe.catalogue = [class71] ∧
    (t.slot 1).state = .pending .awaitingCommit ∧ (t.slot 4).state = .unknownClass ∧ t.au.nextSeq = 5 := by
  decide +kernel

/-- R7, R42 to R45: under AUTO_COMMIT slot 0 commits the draft, and slot 1 fills the reserve which that commit left. -/
theorem test_defineClass_autoCommit :
    let s := { State.reset with slots := rackSlots .unknownClass, params := { State.reset.params with joinPolicy := .autoCommit } }
    let t := after .defineClass (offering s 0x08 [0x71, 0, 0, 0, 128, 7, 2, 1, 0, 0, 0])
    answered t = some (.ok, .defined .created 2 t.pe.stamp) ∧ t.pe.generation = 1 ∧
    (t.slot 0).state = .placed ∧ (t.slot 1).state = .placed ∧ (t.slot 4).state = .unknownClass := by
  decide +kernel

/-- R8: a class that a slot carries stays; R4's code 0x7300 is not in the catalogue. -/
theorem test_dropClass :
    answered (after .dropClass (offering rack 0x09 [0x71, 0])) = some (.classInUse, .none) ∧
    answered (after .dropClass (offering rack 0x09 [0x73, 0])) = some (.noClass, .none) := by decide +kernel

/-- R10. -/
theorem test_readClass :
    answered (after .readClass (offering rack 0x0A [1])) = some (.ok, .classEntry class72) ∧
    answered (after .readClass (offering rack 0x0A [2])) = some (.noClass, .none) := by decide

/-- R57: five entries, all in the first page. -/
theorem test_readPlacement :
    answered (after .readPlacement (offering rack 0x0C [0])) = some (.ok, .placementPage 1 6 5 0 layout) ∧
    answered (after .readPlacement (offering rack 0x0C [192])) = some (.badParam, .none) := by decide +kernel

/-- 11.1, step 6. -/
theorem test_readDraft :
    answered (after .readDraft (offering uncommitted 0x0D [0])) = some (.ok, .draftPage 5 3 0 5 0 layout) := by
  decide +kernel

/-- 11.1, step 7; and R50 for a stamp that is not the current one. -/
theorem test_commitPlacement :
    let t := after .commitPlacement (offering uncommitted 0x0E [0, 5])
    answered t = some (.ok, .committed 1 6 3 0) ∧ t.pe.placement = layout ∧ (t.slot 4).state = .placed ∧
    answered (after .commitPlacement (offering uncommitted 0x0E [0, 4])) = some (.draftChanged, .stamp 5) := by
  decide +kernel

/-- R80. -/
theorem test_readSlot :
    answered (after .readSlot (offering rack 0x10 [4])) =
      some (.ok, .slotRecord
        ⟨4, .placed, some ⟨0x7200, 4, 1, none⟩, 1, 0, 0, 1, some ⟨.window 4, 8192, 64, 0x7200, true, some ⟨8, 4⟩⟩⟩) := by
  decide

/-- R70, R71: the reply carries the state found; the window becomes a hole. -/
theorem test_resetSlot :
    let t := after .resetSlot (offering rack 0x11 [0])
    answered t = some (.ok, .slotState .placed) ∧ (t.slot 0).state = .probing ∧
    (t.pe.placement.head?.map Entry.kind) = some .vacancy ∧
    answered (after .resetSlot (offering rack 0x11 [2])) = some (.slotState, .none) := by decide +kernel

/-- R72, R73: the lane is idle and its queue empty, so HALT begins. -/
theorem test_releaseSlot :
    let t := after .releaseSlot (offering rack 0x12 [4])
    answered t = some (.ok, .none) ∧ (t.slot 4).state = .draining true ∧ t.pe = rack.pe ∧
    ((t.slot 4).lane.exchange.map Exchange.kind) = some .halt := by decide +kernel

/-- 11.1: the fence word of class 0x7100 carries count 2. -/
theorem test_accessRead :
    answered (after .accessRead (offering rack 0x14 [0, 1, 2, 0x80, 1])) = some (.ok, .fenceWord 1 0x71000002) ∧
    answered (after .accessRead (offering rack 0x14 [0, 0, 2, 0x80, 1])) = some (.staleView, .generation 1) := by
  decide +kernel

/-- R53: a fence takes no write. R111, R113: an access to window 8192 of slot 4 is accepted and begins. -/
theorem test_accessWrite :
    answered (after .accessWrite (offering rack 0x15 [0, 1, 2, 0x80, 1, 0, 0, 0, 7])) =
      some (.fenceWrite, .generation 1) ∧
    let t := after .accessWrite (offering rack 0x15 [0, 1, 0x20, 3, 1, 0, 0, 0, 7])
    t.transactions = [⟨0x11, .write, 4, 3, 1, [0], .inExchange, 1⟩] ∧ t.pool[(0 : BlockNo)].words[0] = 7#32 := by
  decide +kernel

/-- R121: the waiting access is answered first, then the Cancel. -/
theorem test_cancelAccess :
    let t := after .cancelAccess (offering (holding rack (access .read .waiting)) 0x16 [0x22])
    t.transactions = [] ∧ (t.hli.replies.map fun r => (r.tag, r.status)) = [(0x22, .cancelled), (0x11, .ok)] := by
  decide +kernel

/-- Seven notices, all SENT, as before step 8 of 11.1. -/
def noticed : State :=
  { rack with
    au := { rack.au with
      queue := (List.range 7).map fun i => ⟨i + 1, .releaseDone 0 .confirmed, .sent⟩
      nextSeq := 8 } }

/-- 11.1, step 8; and R134 for a number that is not queued. -/
theorem test_acknowledgeNotices :
    answered (after .acknowledgeNotices (offering noticed 0x18 [0, 7])) = some (.ok, .acknowledged 7 0) ∧
    answered (after .acknowledgeNotices (offering noticed 0x18 [0, 8])) = some (.badSeq, .badSeq 1 7) := by
  decide +kernel

/-- R136: notices 3 to 7 become NEW. -/
theorem test_resendNotices :
    let t := after .resendNotices (offering noticed 0x19 [0, 3])
    answered t = some (.ok, .madeNew 5) ∧ t.au.sentCount = 2 := by decide +kernel

/-- R139: numbers 254 and 255 are disabled; a range past 255 is refused. -/
theorem test_setEventEnable :
    let t := after .setEventEnable (offering rack 0x1A [254, 0, 2, 0])
    flagOf t.au.enabled 253 = true ∧ flagOf t.au.enabled 254 = false ∧ flagOf t.au.enabled 255 = false ∧
    answered (after .setEventEnable (offering rack 0x1A [255, 0, 2, 0])) = some (.badParam, .none) := by decide +kernel

/-- R161: the counters are reported and then cleared. -/
theorem test_readCounters :
    let s := link rack fun h => { h with counters := ⟨5, 4, 3, 2, 1⟩ }
    let t := after .readCounters (offering s 0x1B [0, 0, 1])
    answered t = some (.ok, .linkCounters ⟨5, 4, 3, 2, 1⟩) ∧ t.hli.counters = ⟨0, 0, 0, 0, 0⟩ := by decide

/-- R61. -/
theorem test_presenceRise :
    ((after (.presenceRise 7) rack).slot 7).state = .settling ∧ ((after (.presenceRise 7) rack).slot 7).settle = some 100 := by
  decide

/-- R48, R68: the anchored window of slot 4 becomes a HELD_ANCHOR, and the stamp counts the departure. -/
theorem test_presenceLoss :
    let t := after (.presenceLoss 4) rack
    (t.slot 4).state = .empty ∧ (t.pe.placement.getLast?.map Entry.kind) = some .heldAnchor ∧ t.pe.stamp = 7 ∧
    (t.au.queue.map Notice.kind) = [.moduleLeft 4 0x7200 .presenceLost] := by decide +kernel

/-- R62, R63. -/
theorem test_settlePeriodExpiry :
    let t := after (.settlePeriodExpiry 4) (with4 rack { Slot.powerOn with presence := true, state := .settling, settle := some 100 })
    (t.slot 4).state = .probing ∧ ((t.slot 4).lane.exchange.map Exchange.kind) = some (.probe .first) := by decide +kernel

/-- The last byte of a frame, on a lane that has received the others. -/
def lastByte (s : State) (f : LaneFrame) : State :=
  after (.laneByteReceived 4 (lineOfByte (f.toBytes.getLast?.getD 0))) (lane4 s fun l => { l with receiver := .inside f.toBytes.tail.dropLast })

/-- 11.2: local event 1 of slot 4 is number 9 under generation 1. -/
theorem test_laneByteReceived :
    let t := lastByte rack ⟨.event, true, 1, 0, []⟩
    (t.au.queue.map Notice.kind) = [.event 9 4 1 1 []] ∧ (t.slot 4).lane.eventAnswer = some ⟨true, true⟩ := by
  decide +kernel

/-- R84: a wrong check, header bits 6 to 4, a kind of the part's and a wrong word count make a frame bad. -/
theorem test_bad_frames :
    let check (covered : List Byte) := covered ++ checkBytes covered
    parseLaneFrame (check [0x8B, 0, 7, 0]) = some ⟨.done, true, 7, 0, []⟩ ∧ parseLaneFrame [0x8B, 0, 7, 0, 0, 0] = none ∧
    parseLaneFrame (check [0x9B, 0, 7, 0]) = none ∧ parseLaneFrame (check [0x01, 0, 0, 0]) = none ∧
    parseLaneFrame (check [0x0B, 0, 0, 1, 0, 0, 0, 0]) = none := by decide +kernel

/-- R172, R84: a frame that falls silent is bad. -/
theorem test_laneSilenceTimeout :
    let t := after (.laneSilenceTimeout 4) (lane4 rack fun l => { l with receiver := .inside [0xA] })
    (t.slot 4).lane.receiver = .between ∧ (t.slot 4).lane.counters.badFrames = 1 := by decide +kernel

/-- R90: the first send is followed by a retry. -/
theorem test_replyTimeExpiry :
    let t := after (.replyTimeExpiry 4) (exchanging (holding rack (access .read .inExchange)) (sentOnce (.read 0x22 0 1)))
    ((t.slot 4).lane.exchange.map Exchange.sends) = some 2 ∧ (t.slot 4).lane.counters.retries = 1 := by decide +kernel

/-- R86: the timer takes the Reply Time in force when the sending began. -/
theorem test_laneFrameSent :
    let s := lane4 (exchanging rack { sentOnce .halt with timer := none }) fun l => { l with sending := some ⟨.exchange, 33, []⟩ }
    (((after (.laneFrameSent 4) s).slot 4).lane.exchange.map Exchange.timer) = some (some 33) := by decide +kernel

/-! ## States that meet the hypotheses of the statements, clause by clause at the bounds

Each theorem `test_meets_<Name>` names a state and operands for every clause of `Obligations.<Name>` that has
hypotheses. -/

theorem test_meets_StepRunsFrontCommand :
    ({ rack with pending := [.presenceLoss 4, .queryPart] } : State).pending = .presenceLoss 4 :: [.queryPart] := rfl

theorem test_meets_StepsThatCannotComeAbout :
    rack.pending = [] ∧ (State.powerOn []).held = true ∧ (Instr.presenceRise 16).WellFormed = false ∧
    (Instr.hostByteReceived (onLine true 0 true)).WellFormed = false ∧ takesRequest .queryPart ∧
    (∀ r, (offering rack 0x03 [0]).Offers r → (decodeRequest r).command ≠ .queryPart) ∧
    rack.hli.receiver = .hunting ∧ rack.hli.sending = none ∧ rack.held = false ∧
    (rack.slot 4).state ≠ .empty ∧ (rack.slot 2).state = .empty ∧ (rack.slot 4).state ≠ .settling ∧
    (rack.slot 4).lane.receiver = .between ∧ (rack.slot 4).lane.sending = none ∧
    (∀ x, (rack.slot 4).lane.exchange = some x → x.timer = none) := by
  refine ⟨rfl, rfl, by decide, by decide, ⟨.queryPart, rfl⟩, fun r h => ?_, rfl, rfl, rfl, by decide, by decide, by decide, by decide,
    by decide, fun x h => ?_⟩
  · obtain rfl : r = ⟨0x03, 0x11, [0]⟩ := (Option.some.inj h.head).symm
    decide
  · have idle : (rack.slot 4).lane.exchange = none := by decide
    simp [idle] at h

theorem test_meets_ResetEndStartsPart : (State.powerOn []).held = true ∧ (State.powerOn []).HeldAtPowerOn :=
  ⟨rfl, fun _ => rfl⟩

theorem test_meets_ConfigurationChangesOnlyBy :
    (after .setParameters (offering rack 0x02 [0, 1, 0, 0, 99, 20, 2, 3, 8, 10])).params ≠ rack.params ∧
    (after .setEventEnable (offering rack 0x1A [0, 0, 1, 0])).au.enabled ≠ rack.au.enabled ∧
    (after .restart (offering rack 0x04 [1])).pe.catalogue ≠ rack.pe.catalogue ∧
    (after (.resetEnd false false 0) (State.powerOn [])).held ≠ (State.powerOn []).held ∧
    (after .commitPlacement (offering uncommitted 0x0E [0, 5])).pe.generation ≠ uncommitted.pe.generation := by
  decide +kernel

theorem test_meets_HostByteStages :
    let stage (r : Receiver) := (link rack fun h => { h with receiver := r }).hli.receiver
    (∀ b ∈ [(0xA5 : Byte), 0xA4, 2, 3, 0xF8, 0xF9], ∀ stop,
      (onLine false b stop).start = false ∧ byteOnLine (onLine false b stop) = b) ∧
    rack.held = false ∧ stage .hunting = .hunting ∧ stage (.awaitingLength 10) = .awaitingLength 10 ∧
    (3 ≤ (0x03 : Byte).toNat ∧ (0xF8 : Byte).toNat ≤ 248) ∧ ((0x02 : Byte).toNat < 3 ∧ 248 < (0xF9 : Byte).toNat) ∧
    (stage (.body 10 3 [1]) = .body 10 3 [1] ∧ [(1 : Byte)].length + 1 < 3) ∧
    (stage (.body 10 3 [1, 2]) = .body 10 3 [1, 2] ∧ 3 ≤ [(1 : Byte), 2].length + 1) ∧
    stage (.check 10 3 [1, 2, 3] []) = .check 10 3 [1, 2, 3] [] := by decide

/-- A Query Part, the shortest body; a full Host Request Queue of tags 0 to 15. -/
def fullQueue : State :=
  link rack fun h => { h with requests := (List.range 16).map fun i => ⟨0x01, byteOf i, [0]⟩ }

theorem test_meets_HostFrameJudged :
    let body : List Byte := [0x01, 0x11, 0]
    let check := checkBytes (byteOf body.length :: body)
    let longest : List Byte := List.replicate 248 0x11
    let lines (f : List Byte) := f.map fun b => onLine false b false
    (∀ line ∈ lines (hostFrame body), line.start = false) ∧
    (lines (hostFrame body)).map byteOnLine =
      0xA5 :: byteOf body.length :: (body ++ [check.getD 0 0, check.getD 1 0]) ∧
    rack.held = false ∧ rack.hli.receiver = .hunting ∧ 3 ≤ body.length ∧ longest.length ≤ 248 ∧
    [check.getD 0 0, check.getD 1 0] = check ∧ [check.getD 0 0 + 1, check.getD 1 0] ≠ check ∧
    body.getD 1 0 ∈ (offering rack 0x03 [0]).tags ∧ body.getD 1 0 ∉ rack.tags ∧ rack.hli.requests.length < 16 ∧
    body.getD 1 0 ∉ fullQueue.tags ∧ 16 ≤ fullQueue.hli.requests.length ∧ fullQueue.hli.receiver = .hunting := by
  decide +kernel

/-- A state whose transmitter sends a frame of some source. -/
def sendingFrom (s : State) (source : FrameSource) : State := link s fun h => { h with sending := some ⟨source, []⟩ }

theorem test_meets_HostFrameSentUpdatesSource :
    let n (q : Nat) (d : Delivery) : Notice := ⟨q, .summary 1, d⟩
    (∀ m ∈ [n 1 .sent], m.seq ≠ 2) ∧
    ([n 1 .sent, n 2 .fresh, n 3 .fresh] = [n 1 .sent] ++ n 2 .fresh :: [n 3 .fresh] ∧
      (∀ m ∈ [n 1 .sent], m.seq ≠ 2 ∧ m.delivery = .sent)) ∧
    (∃ m ∈ [n 1 .fresh], m.delivery = .fresh) ∧
    (∀ source ∈ [FrameSource.refusal, .reply, .notice 1, .noticeRemoved],
      (sendingFrom rack source).held = false ∧ (sendingFrom rack source).hli.sending = some ⟨source, []⟩) ∧
    (link rack fun h => { h with replies := [⟨0x81, 0x11, .ok, .none⟩] }).hli.replies = ⟨0x81, 0x11, .ok, .none⟩ :: [] := by
  decide

/-- A notice on offer, with or without replies and a refusal before it. -/
def choosing (since : Nat) (replies : List Reply) (refusal : Option RefusalFrame) : State :=
  link { rack with au := rack.au.post (.summary 1) } fun h =>
    { h with sinceNotice := since, replies := replies, refusal := refusal }

theorem test_meets_ArbiterChoice :
    let n : Notice := ⟨1, .summary 1, .fresh⟩
    let r : Reply := ⟨0x81, 0x11, .ok, .none⟩
    (sendingFrom rack .refusal).hli.sending ≠ none ∧
    (choosing 0 [r] (some ⟨0x81, 0x11, .queueFull⟩)).hli.refusal = some ⟨0x81, 0x11, .queueFull⟩ ∧
    ((choosing 4 [r] none).hli.sinceNotice = 4 ∧ (choosing 4 [r] none).au.offer 8 = some n) ∧
    ((choosing 3 [r] none).hli.sinceNotice ≠ 4 ∧ (choosing 3 [r] none).hli.replies = r :: []) ∧
    ((choosing 0 [] none).hli.replies = [] ∧ (choosing 0 [] none).au.offer 8 = some n) ∧
    (rack.hli.refusal = none ∧ rack.hli.replies = [] ∧ rack.au.offer rack.params.noticeWindow = none) ∧
    255 < 256 ∧ 65535 < 65536 ∧ (0x7F : Byte).toNat < 0x80 ∧ 0x80 ≤ (0x80 : Byte).toNat := by decide

theorem test_meets_UnknownRequestAnswered :
    (offering rack 0x05 [0]).Offers ⟨0x05, 0x11, [0]⟩ ∧ (0x05 : Byte) ∉ requestCodes ∧
    (offering rack 0x01 [0, 0]).Offers ⟨0x01, 0x11, [0, 0]⟩ ∧ (0x01 : Byte) ∈ requestCodes ∧
    [(0 : Byte), 0].length + 2 ∉ bodyLengths 0x01 :=
  ⟨offers_offering _ _ rfl (by decide), by decide, offers_offering _ _ rfl (by decide), by decide, by decide⟩

theorem test_meets_RequestFields : (List.replicate 32 (0#32 : Word)).length ≤ 32 := by decide

theorem test_meets_ReportsChangeNothing :
    (∀ code fields, (offering rack code fields).Offers ⟨code, 0x11, fields⟩) ∧
    decodeRequest ⟨0x01, 0x11, [0]⟩ = .queryPart ∧
    decodeRequest ⟨0x0C, 0x11, [191]⟩ = .readPlacement 191 ∧ decodeRequest ⟨0x0C, 0x11, [192]⟩ = .readPlacement 192 ∧
    decodeRequest ⟨0x0D, 0x11, [191]⟩ = .readDraft 191 ∧ decodeRequest ⟨0x0D, 0x11, [192]⟩ = .readDraft 192 ∧
    (decodeRequest ⟨0x10, 0x11, [15]⟩ = .readSlot 15 ∧ (15 : SlotNo).val = 15) ∧
    decodeRequest ⟨0x10, 0x11, [16]⟩ = .readSlot 16 :=
  ⟨fun _ _ => offers_offering _ _ rfl (by decide), by decide, by decide, by decide, by decide, by decide, by decide,
    by decide⟩

/-- Parameters that differ from the power-on values in each value, at its bound. -/
def extremes : Params := ⟨.autoCommit, 65535, 2000, 250, 3, 8, 16, 100⟩

def setExtremes : HostRequest := ⟨0x02, 0x11, [1, 0xFF, 0xFF, 0x07, 0xD0, 250, 3, 8, 16, 100]⟩

/-- The same with a Settle Time of 2001. -/
def setBeyond : HostRequest := ⟨0x02, 0x11, [1, 0xFF, 0xFF, 0x07, 0xD1, 250, 3, 8, 16, 100]⟩

def fieldsBeyond : ParamFields := ⟨1, 65535, 2001, 250, 3, 8, 16, 100⟩

theorem extremes_inRange : extremes.InRange := by constructor <;> decide

theorem fieldsBeyond_outOfRange (p : Params) (h : p.InRange) : fieldsBeyond ≠ p.fields := by
  intro e
  have := congrArg ParamFields.settleTime e
  have := h.settleTime
  simp only [fieldsBeyond, Params.fields] at *
  omega

/-- A Set Parameters with a Read Parameters behind it. -/
def setThenRead (r : HostRequest) : State := link rack fun h => { h with requests := [r, ⟨0x03, 0x12, [0]⟩] }

theorem test_meets_SetParametersApplied :
    (setThenRead setExtremes).Offers setExtremes ∧ decodeRequest setExtremes = .setParameters extremes.fields ∧
    extremes.InRange ∧ (setThenRead setBeyond).Offers setBeyond ∧ decodeRequest setBeyond = .setParameters fieldsBeyond ∧
    ∀ p : Params, p.InRange → fieldsBeyond ≠ p.fields :=
  ⟨⟨rfl, by decide, rfl⟩, by decide, extremes_inRange, ⟨rfl, by decide, rfl⟩, by decide, fieldsBeyond_outOfRange⟩

theorem test_meets_ReadParametersReports :
    (offering rack 0x03 [0]).Offers ⟨0x03, 0x11, [0]⟩ ∧ decodeRequest ⟨0x03, 0x12, [0]⟩ = .readParameters ∧
    (∀ r ∈ [setExtremes, setBeyond], exec .setParameters (setThenRead r) = .next (after .setParameters (setThenRead r)) ∧
      (after .setParameters (setThenRead r)).held = false ∧ (after .setParameters (setThenRead r)).owed < 48 ∧
      (after .setParameters (setThenRead r)).hli.requests.head? = some ⟨0x03, 0x12, [0]⟩) :=
  ⟨offers_offering _ _ rfl (by decide), by decide, by
    intro r hr
    simp only [List.mem_cons, List.not_mem_nil, or_false] at hr
    obtain rfl | rfl := hr <;> exact ⟨rfl, by decide, by decide, by decide⟩⟩

theorem test_meets_ReadCountersReports :
    (∀ fields, (offering rack 0x1B fields).Offers ⟨0x1B, 0x11, fields⟩) ∧
    decodeRequest ⟨0x1B, 0x11, [0, 0, 0]⟩ = .readCounters 0 0 0 ∧ decodeRequest ⟨0x1B, 0x11, [0, 0, 1]⟩ = .readCounters 0 0 1 ∧
    decodeRequest ⟨0x1B, 0x11, [1, 15, 0]⟩ = .readCounters 1 (15 : SlotNo).val 0 ∧
    decodeRequest ⟨0x1B, 0x11, [1, 15, 1]⟩ = .readCounters 1 (15 : SlotNo).val 1 ∧
    decodeRequest ⟨0x1B, 0x11, [1, 16, 0]⟩ = .readCounters 1 16 0 ∧ decodeRequest ⟨0x1B, 0x11, [2, 0, 0]⟩ = .readCounters 2 0 0 ∧
    decodeRequest ⟨0x1B, 0x11, [0, 0, 2]⟩ = .readCounters 0 0 2 :=
  ⟨fun _ => offers_offering _ _ rfl (by decide), by decide, by decide, by decide, by decide, by decide, by decide, by decide⟩

theorem test_meets_RestartEffects :
    let s := holding rack (access .read .waiting)
    (∀ fields, (offering s 0x04 fields).Offers ⟨0x04, 0x11, fields⟩ ∧ (offering s 0x04 fields).TagsDistinct) ∧
    decodeRequest ⟨0x04, 0x11, [0]⟩ = .restart 0 ∧ decodeRequest ⟨0x04, 0x11, [1]⟩ = .restart 1 ∧
    decodeRequest ⟨0x04, 0x11, [2]⟩ = .restart 2 :=
  ⟨fun _ => ⟨offers_offering _ _ rfl (by decide), List.nodup_singleton _⟩, by decide, by decide, by decide⟩

/-- A Define Class of window size 64 and event span 4. -/
def defining (code rank : Nat) (anchor : Option Nat) : ClassFields :=
  ⟨code, rank, 64, 6, 4, 0, if anchor.isSome then 1 else 0, anchor.getD 0⟩

/-- The request that carries it. -/
def definesRequest (f : ClassFields) : HostRequest :=
  ⟨0x08, 0x11, be16 f.code ++ [byteOf f.rank] ++ be16 f.size
    ++ [byteOf f.exponent, byteOf f.span, byteOf f.reserve, byteOf f.anchorIndication] ++ be16 f.anchorBase⟩

theorem defines_offers (s : State) (f : ClassFields) (running : s.held = false) (room : s.owed < 48) :
    (link s fun h => { h with requests := [definesRequest f] }).Offers (definesRequest f) := ⟨running, room, rfl⟩

/-- Thirty-two entries of one rank; no run reaches this catalogue, since the 32 ranks of a full one leave check 2 to refuse
every new code. -/
def crowded : List ClassEntry := (List.range 32).map fun i => ⟨0x100 + i, 5, 1, 0, 0, 0, none⟩

theorem test_meets_DefineClassChecks :
    let cat := rack.pe.catalogue
    let ranked (f : ClassFields) (cat : List ClassEntry) := ∃ d ∈ cat, d.rank = f.rank ∧ d.code ≠ f.code
    let known (f : ClassFields) (cat : List ClassEntry) := ∃ d ∈ cat, d.code = f.code
    (∀ f ∈ [defining 0x7300 32 none, defining 0x7300 0 none, defining 0x7300 31 (some 8192), defining 0x7200 31 none,
        defining 0x7300 31 (some 8256)], decodeRequest (definesRequest f) = .defineClass f) ∧
    (defining 0x7300 32 none).BadParam ∧
    (¬(defining 0x7300 0 none).BadParam ∧ ranked (defining 0x7300 0 none) cat) ∧
    (¬(defining 0x7300 31 none).BadParam ∧ ¬ranked (defining 0x7300 31 none) crowded ∧
      ¬known (defining 0x7300 31 none) crowded ∧ 32 ≤ crowded.length) ∧
    (¬(defining 0x7300 31 (some 8192)).BadParam ∧ ¬ranked (defining 0x7300 31 (some 8192)) cat ∧ cat.length < 32 ∧
      (defining 0x7300 31 (some 8192)).AnchorConflict cat) ∧
    (¬(defining 0x7200 31 none).BadParam ∧ ¬ranked (defining 0x7200 31 none) cat ∧
      ¬(defining 0x7200 31 none).AnchorConflict cat ∧ known (defining 0x7200 31 none) cat ∧ rack.Carried 0x7200) ∧
    (¬(defining 0x7300 31 (some 8256)).BadParam ∧ ¬ranked (defining 0x7300 31 (some 8256)) cat ∧
      ¬(defining 0x7300 31 (some 8256)).AnchorConflict cat ∧ ¬known (defining 0x7300 31 (some 8256)) cat) := by
  refine ⟨by decide, by simp [ClassFields.BadParam, defining], ⟨by simp [ClassFields.BadParam, defining], by decide⟩,
    ⟨by simp [ClassFields.BadParam, defining], by decide, by decide, by decide⟩,
    ⟨by simp [ClassFields.BadParam, defining], by decide, by decide, ?_⟩,
    ⟨by simp [ClassFields.BadParam, defining], by decide, ?_, by decide, ⟨4, by decide, by decide⟩⟩,
    ⟨by simp [ClassFields.BadParam, defining], by decide, ?_, by decide⟩⟩ <;>
  simp [ClassFields.AnchorConflict, defining, rack, class71, class72, Region.Disjoint]

/-- The catalogue of the rack is consistent. -/
theorem rack_catalogue : CatalogueConsistent rack.pe.catalogue where
  length := by decide
  valid := by
    intro c hc
    simp only [rack, List.mem_cons, List.not_mem_nil, or_false] at hc
    obtain rfl | rfl := hc <;> constructor <;> simp [class71, class72]
  ranks := by decide
  codes := by decide
  anchors := List.pairwise_singleton _ (⟨8192, 64⟩ : Region)

theorem test_meets_DefineClassAdds :
    let f := defining 0x7300 31 (some 8256)
    let s := link rack fun h => { h with requests := [definesRequest f] }
    let automatic : State := { s with params := { s.params with joinPolicy := .autoCommit } }
    (s.Offers (definesRequest f) ∧ s.params.joinPolicy = .fillOnly) ∧
    (automatic.Offers (definesRequest f) ∧ automatic.params.joinPolicy = .autoCommit) ∧
    decodeRequest (definesRequest f) = .defineClass f ∧ CatalogueConsistent s.pe.catalogue ∧ ¬f.BadParam ∧
    (∀ d ∈ s.pe.catalogue, d.code ≠ f.code ∧ d.rank ≠ f.rank) ∧ s.pe.catalogue.length < 32 ∧
    ¬f.AnchorConflict s.pe.catalogue ∧ (∀ e ∈ s.pe.placement, e.classCode ≠ f.code) :=
  ⟨⟨defines_offers _ _ rfl (by decide), rfl⟩, ⟨defines_offers { rack with params := _ } _ rfl (by decide), rfl⟩, by decide,
    rack_catalogue, by simp [ClassFields.BadParam, defining], by decide,
    by decide, by simp [ClassFields.AnchorConflict, defining, rack, link, class71, class72, Region.Disjoint], by decide⟩

/-- The rack with every slot empty of modules. -/
def unseated : State := { rack with slots := State.reset.slots }

theorem unseated_carries_none (code : Nat) : ¬unseated.Carried code := by
  rintro ⟨k, h, -⟩
  revert k
  decide

theorem test_meets_DefineClassRedefines :
    let f := defining 0x7200 31 none
    let s := link unseated fun h => { h with requests := [definesRequest f] }
    s.Offers (definesRequest f) ∧ decodeRequest (definesRequest f) = .defineClass f ∧ ¬f.BadParam ∧
    (∀ d ∈ s.pe.catalogue, d.rank = f.rank → d.code = f.code) ∧ (∃ d ∈ s.pe.catalogue, d.code = f.code) ∧
    ¬f.AnchorConflict s.pe.catalogue ∧ ¬s.Carried f.code ∧ CatalogueConsistent s.pe.catalogue :=
  ⟨defines_offers _ _ rfl (by decide), by decide, by simp [ClassFields.BadParam, defining], by decide, by decide,
    by simp [ClassFields.AnchorConflict, defining], unseated_carries_none _, rack_catalogue⟩

theorem test_meets_DropClassEffects :
    (∀ s ∈ [rack, unseated], ∀ fields, (offering s 0x09 fields).Offers ⟨0x09, 0x11, fields⟩) ∧
    decodeRequest ⟨0x09, 0x11, [0, 0]⟩ = .dropClass 0 ∧ decodeRequest ⟨0x09, 0x11, [0xFF, 0xFF]⟩ = .dropClass 0xFFFF ∧
    (decodeRequest ⟨0x09, 0x11, [0, 1]⟩ = .dropClass 1 ∧ ∀ d ∈ rack.pe.catalogue, d.code ≠ 1) ∧
    (decodeRequest ⟨0x09, 0x11, [0x72, 0]⟩ = .dropClass 0x7200 ∧ (∃ d ∈ rack.pe.catalogue, d.code = 0x7200) ∧
      rack.Carried 0x7200 ∧ ¬unseated.Carried 0x7200) :=
  ⟨by
    intro s hs fields
    simp only [List.mem_cons, List.not_mem_nil, or_false] at hs
    obtain rfl | rfl := hs <;> exact offers_offering _ _ rfl (by decide), by decide, by decide, by decide, by decide,
    by decide, ⟨4, by decide, by decide⟩, unseated_carries_none _⟩

theorem test_meets_ReadClassReports :
    (∀ fields, (offering rack 0x0A fields).Offers ⟨0x0A, 0x11, fields⟩) ∧
    decodeRequest ⟨0x0A, 0x11, [32]⟩ = .readClass 32 ∧
    (decodeRequest ⟨0x0A, 0x11, [31]⟩ = .readClass 31 ∧ ∀ c ∈ rack.pe.catalogue, c.rank ≠ 31) ∧
    (decodeRequest ⟨0x0A, 0x11, [1]⟩ = .readClass 1 ∧ CatalogueConsistent rack.pe.catalogue ∧ class72 ∈ rack.pe.catalogue ∧
      class72.rank = 1) :=
  ⟨fun _ => offers_offering _ _ rfl (by decide), by decide, by decide, by decide, rack_catalogue, by decide, by decide⟩

theorem test_meets_PlacesFound :
    (1 ≤ 1 ∧ 16 ≤ 16) ∧ eventAlignment 3 = 4 ∧
    (IsLeast { b | 250 ≤ b ∧ 4 ∣ b } 252 ∧ 252 + 4 ≤ 256) ∧ (IsLeast { b | 253 ≤ b ∧ 4 ∣ b } 256 ∧ 256 < 256 + 3) := by
  refine ⟨by decide, by decide, ⟨⟨by decide, fun b hb => ?_⟩, by decide⟩, ⟨⟨by decide, fun b hb => ?_⟩, by decide⟩⟩ <;>
  · obtain ⟨h, n, rfl⟩ := hb
    omega

theorem test_meets_PackingWalks :
    (placeItem [] (.fence class71) ⟨65535, 256⟩ = some (⟨.fence, 65535, 1, 0x7100, false, none⟩, ⟨65536, 256⟩)) ∧
    [(⟨0, 0x7100⟩ : Member), ⟨4, 0x7200⟩].Pairwise (fun a b => a.slot < b.slot) ∧
    class71.anchor = none ∧ class72.anchor = some 8192 := by decide

theorem test_meets_DraftIsConsistent :
    CatalogueConsistent rack.draftInputs.catalogue ∧ (rack.draftInputs.members.map Member.slot).Nodup :=
  ⟨rack_catalogue, by decide⟩

theorem test_meets_CommitInstallsDraft :
    (∀ fields, (offering uncommitted 0x0E fields).Offers ⟨0x0E, 0x11, fields⟩) ∧
    decodeRequest ⟨0x0E, 0x11, [0, 5]⟩ = .commitPlacement uncommitted.pe.stamp ∧
    decodeRequest ⟨0x0E, 0x11, [0, 4]⟩ = .commitPlacement 4 ∧ 4 ≠ uncommitted.pe.stamp :=
  ⟨fun _ => offers_offering _ _ rfl (by decide), by decide, by decide, by decide⟩

/-- Slot 6 is about to join as a module of a class, under a Join Policy and a Run Base. -/
def joining (code : Nat) (policy : JoinPolicy) (runBase : Nat) : State :=
  { rack with
    slots := rack.slots.set 6 (moduleIn .probing code 0)
    params := { rack.params with joinPolicy := policy, runBase := runBase } }

/-- The state in which the draft of that join is computed. -/
def entered (code runBase : Nat) : State :=
  let s := joining code .autoCommit runBase
  { s.withSlot 6 { s.slot 6 with state := .pending .awaitingCommit } with pe := { s.pe with stamp := nextStamp s.pe.stamp } }

theorem undisturbed_of_sameWindow {s : State} {draft : List Entry}
    (windows : ∀ k : SlotNo, (s.slot k).state.holdsWindow = true → sameWindow s.pe.placement draft k = true)
    (anchors : ∀ e ∈ s.pe.placement, e.kind = .heldAnchor ∨ (e.kind.isWindow = true ∧ e.anchored = true) →
      ∃ d ∈ draft, d.anchored = true ∧ d.classCode = e.classCode ∧ d.base = e.base) : s.Undisturbed draft := by
  refine ⟨fun k h => ?_, anchors⟩
  have same := windows k h
  unfold sameWindow at same
  split at same
  · rename_i d p hd hp
    simp only [Bool.and_eq_true, beq_iff_eq] at same
    exact ⟨d, p, hd, hp, same⟩
  · simp at same

theorem test_meets_JoinProcedure :
    (((joining 0x7100 .fillOnly 256).slot 6).classCode = 0x7100 ∧
      findHole rack.pe.placement 0x7100 = some ⟨.reserve, 512, 128, 0x7100, false, some ⟨4, 2⟩⟩) ∧
    (((joining 0x7200 .fillOnly 256).slot 6).classCode = 0x7200 ∧ findHole rack.pe.placement 0x7200 = none ∧
      (joining 0x7200 .fillOnly 256).params.joinPolicy = .fillOnly) ∧
    ((joining 0x7200 .autoCommit 512).params.joinPolicy = .autoCommit ∧
      ¬((entered 0x7200 512).Undisturbed (entered 0x7200 512).draftInputs.draft ∧
        windowOf (entered 0x7200 512).draftInputs.draft 6 ≠ none)) ∧
    ((entered 0x7200 256).Undisturbed (entered 0x7200 256).draftInputs.draft ∧
      windowOf (entered 0x7200 256).draftInputs.draft 6 ≠ none) := by
  refine ⟨by decide, by decide, ⟨by decide, ?_⟩, undisturbed_of_sameWindow (by decide +kernel) (by decide +kernel),
    by decide +kernel⟩
  rintro ⟨⟨windows, -⟩, -⟩
  obtain ⟨d, p, hd, hp, same, -⟩ := windows 0 (by decide +kernel)
  have h1 : (windowOf (entered 0x7200 512).draftInputs.draft 0).map Entry.base = some 512 := by decide +kernel
  have h2 : (windowOf (entered 0x7200 512).pe.placement 0).map Entry.base = some 256 := by decide +kernel
  rw [hd] at h1
  rw [hp] at h2
  simp only [Option.map_some, Option.some.injEq] at h1 h2
  omega

/-- The layout of the rack is consistent. -/
theorem rack_layout : LayoutConsistent rack.pe.placement where
  length := by decide
  valid := by
    intro e he
    simp only [rack, layout, List.mem_cons, List.not_mem_nil, or_false] at he
    obtain rfl | rfl | rfl | rfl | rfl := he <;> constructor <;> simp [EntryKind.isWindow]
  words := by decide
  numbers := by simp [rack, layout, EventRange.Disjoint]
  slots := by decide

/-- Holes of class 0x7200 of each kind. -/
def holed (kind : EntryKind) (anchored : Bool) : List Entry := [⟨kind, 8192, 64, 0x7200, anchored, some ⟨8, 4⟩⟩]

theorem test_meets_HolesOfAClass :
    LayoutConsistent rack.pe.placement ∧
    (∀ e ∈ [(⟨.heldAnchor, 8192, 64, 0x7200, true, some ⟨8, 4⟩⟩ : Entry), ⟨.vacancy, 8192, 64, 0x7200, false, some ⟨8, 4⟩⟩,
      ⟨.reserve, 8192, 64, 0x7200, false, some ⟨8, 4⟩⟩], findHole (holed e.kind e.anchored) 0x7200 = some e) ∧
    SlotState.participates .empty = false := ⟨rack_layout, by decide, rfl⟩

/-- Addresses 255 and 641 lie just outside entries; 8255 is the last word of the window of slot 4, 640 the fence. -/
theorem test_meets_TranslationTable :
    let p := rack.pe.placement
    LayoutConsistent p ∧ 0 ≠ rack.pe.generation ∧ 1 = rack.pe.generation ∧
    (∀ e ∈ p, ¬(e.base ≤ 255 ∧ 255 < e.base + e.size)) ∧ (∀ e ∈ p, ¬(e.base ≤ 641 ∧ 641 < e.base + e.size)) ∧
    (∃ e ∈ p, e.kind = .window 4 ∧ e.base ≤ 8255 ∧ 8255 < e.base + e.size ∧ e.base + e.size < 8255 + 2 ∧
      8255 + 1 ≤ e.base + e.size) ∧
    (∃ e ∈ p, e.kind = .fence ∧ e.base ≤ 640 ∧ 640 + 1 ≤ e.base + e.size) ∧
    (∃ e ∈ p, e.kind = .reserve ∧ e.base ≤ 512 ∧ 512 + 32 ≤ e.base + e.size) := by
  refine ⟨rack_layout, ?_⟩
  decide

/-! ### Slots -/

/-- A slot 4 that is SETTLING. -/
def settling : State := with4 rack { Slot.powerOn with presence := true, state := .settling, settle := some 100 }

theorem test_meets_SettlingAndProbing :
    rack.held = false ∧ (rack.slot 2).state = .empty ∧ settling.held = false ∧ (settling.slot 4).state = .settling := by
  decide

theorem test_meets_PresenceLossEndsTenure :
    let s := holding rack (access .read .inExchange)
    s.held = false ∧ (s.slot 4).state ≠ .empty ∧ s.TagsDistinct := ⟨rfl, by decide, List.nodup_singleton _⟩

theorem test_meets_ResetSlotProbes :
    let s := holding settling (access .read .waiting)
    (∀ fields, (offering s 0x11 fields).Offers ⟨0x11, 0x11, fields⟩) ∧
    decodeRequest ⟨0x11, 0x11, [16]⟩ = .resetSlot 16 ∧
    (decodeRequest ⟨0x11, 0x11, [2]⟩ = .resetSlot (2 : SlotNo).val ∧ (s.slot 2).state = .empty) ∧
    (decodeRequest ⟨0x11, 0x11, [4]⟩ = .resetSlot (4 : SlotNo).val ∧ (s.slot 4).state = .settling) ∧
    (decodeRequest ⟨0x11, 0x11, [0]⟩ = .resetSlot (0 : SlotNo).val ∧ (s.slot 0).state ≠ .empty ∧
      (s.slot 0).state ≠ .settling ∧ s.TagsDistinct) :=
  ⟨fun _ => offers_offering _ _ rfl (by decide), by decide, by decide, by decide, by decide, by decide, by decide,
    List.nodup_singleton _⟩

theorem test_meets_ReleaseSlotDrains :
    (∀ s ∈ [rack, exchanging rack (sentOnce (.probe .resync))], ∀ fields,
      (offering s 0x12 fields).Offers ⟨0x12, 0x11, fields⟩) ∧
    decodeRequest ⟨0x12, 0x11, [16]⟩ = .releaseSlot 16 ∧ decodeRequest ⟨0x12, 0x11, [4]⟩ = .releaseSlot (4 : SlotNo).val ∧
    (rack.slot 2).state ≠ .placed ∧
    ((rack.slot 4).state = .placed ∧ (rack.slot 4).lane.exchange = none ∧ (rack.slot 4).lane.resyncRequired = false ∧
      ∀ t ∈ rack.transactions, t.slot ≠ 4) ∧
    (((exchanging rack (sentOnce (.probe .resync))).slot 4).state = .placed ∧
      ((exchanging rack (sentOnce (.probe .resync))).slot 4).lane.exchange ≠ none) :=
  ⟨by
    intro s hs fields
    simp only [List.mem_cons, List.not_mem_nil, or_false] at hs
    obtain rfl | rfl := hs <;> exact offers_offering _ _ rfl (by decide), by decide, by decide, by decide, by decide,
    by decide⟩

/-! ### Lanes -/

/-- The rack with slot 4 in some state. -/
def inState (st : SlotState) : State := with4 rack (moduleIn st 0x7200 4)

theorem test_meets_NextExchangeBegins :
    ((exchanging rack (sentOnce .halt)).slot 4).lane.exchange ≠ none ∧
    (((inState .probing).slot 4).lane.exchange = none ∧ ((inState .probing).slot 4).state = .probing) ∧
    (((lane4 rack fun l => { l with resyncRequired := true }).slot 4).lane.resyncRequired = true ∧
      (rack.slot 4).state ≠ .probing) ∧
    ((rack.slot 4).lane.exchange = none ∧ (rack.slot 4).lane.resyncRequired = false ∧ (rack.slot 4).state.participates = true ∧
      ((holding rack (access .read .waiting)).transactions.filter fun t => t.slot = 4) = [] ++ access .read .waiting :: []) ∧
    (((inState (.draining false)).slot 4).state = .draining false ∧
      ((inState (.draining false)).transactions.filter fun t => t.slot = 4) = []) ∧
    ((∀ u ∈ rack.transactions.filter fun t => t.slot = 4, u.state ≠ .waiting) ∧ (rack.slot 4).state ≠ .draining false) := by
  decide

/-- The rack with a frame of an exchange of slot 4 waiting for the transmitter. -/
def frameWaits (kind : ExchangeKind) : State :=
  exchanging (holding rack (access .write .inExchange)) { sentOnce kind with frameWaiting := true, timer := none }

theorem test_meets_LaneTransmitterSends :
    ((lane4 rack fun l => { l with sending := some ⟨.abandoned, 20, []⟩ }).slot 4).lane.sending ≠ none ∧
    (rack.slot 4).lane.sending = none ∧
    ((lane4 rack fun l => { l with eventAnswer := some ⟨true, true⟩ }).slot 4).lane.eventAnswer = some ⟨true, true⟩ ∧
    (rack.slot 4).lane.eventAnswer = none ∧ (rack.slot 4).lane.exchange = none ∧
    ((exchanging rack (sentOnce .halt)).slot 4).lane.exchange = some (sentOnce .halt) ∧ (sentOnce .halt).frameWaiting = false ∧
    (∀ kind ∈ [ExchangeKind.probe .first, .probe .resync, .halt, .read 0x22 0 1, .write 0x22 0 1],
      (((frameWaits kind).slot 4).lane.exchange.map fun x => (x.kind, x.frameWaiting)) = some (kind, true) ∧
      (frameWaits kind).TagsDistinct ∧ access .write .inExchange ∈ (frameWaits kind).transactions) := by
  refine ⟨by decide, by decide, by decide, by decide, by decide, by decide, by decide, fun kind hk => ?_⟩
  refine ⟨?_, List.nodup_singleton _, List.mem_singleton_self _⟩
  revert kind
  decide

theorem test_meets_LaneFrameSentEffects :
    ∀ source ∈ [LaneSource.abandoned, .eventAnswer, .exchange],
      let s := lane4 rack fun l => { l with sending := some ⟨source, 20, []⟩ }
      s.held = false ∧ (s.slot 4).lane.sending = some ⟨source, 20, []⟩ := by decide

theorem test_meets_ReplyTimeExpiryEffects :
    (∀ x ∈ [{ sentOnce .halt with sends := 2 }, { sentOnce .halt with sends := 3 },
        { sentOnce (.read 0x22 0 1) with cancelled := true }],
      (exchanging rack x).held = false ∧ ((exchanging rack x).slot 4).lane.exchange = some x ∧ x.timer ≠ none) ∧
    2 < 1 + rack.params.retryLimit ∧ 1 + rack.params.retryLimit ≤ 3 := by decide

theorem test_meets_ExchangeFailureEffects :
    let s := holding rack (access .read .inExchange)
    s.TagsDistinct ∧ access .read .inExchange ∈ s.transactions ∧
    (sentOnce (.read 0x22 0 1)).kind = (access .read .inExchange).exchangeKind ∧
    (sentOnce (.probe .resync)).kind = .probe .resync ∧ (sentOnce (.probe .first)).kind = .probe .first ∧
    (sentOnce .halt).releaseEnded = false ∧ (Exchange.kind { sentOnce .halt with releaseEnded := true }) = .halt :=
  ⟨List.nodup_singleton _, List.mem_singleton_self _, rfl, rfl, rfl, rfl, rfl⟩

/-- An IDENT, a DONE and an EVENT, as the bytes after the start byte. -/
def identBytes : List Byte := (⟨.ident, false, 0, 2, [0x72000004, 1]⟩ : LaneFrame).toBytes.tail

def doneBytes : List Byte := (⟨.done, false, 0, 0, []⟩ : LaneFrame).toBytes.tail

def eventBytes : List Byte := (⟨.event, true, 1, 0, []⟩ : LaneFrame).toBytes.tail

theorem test_meets_LaneBytesDelimited :
    (∀ b ∈ [(0xC3 : Byte), 0xC2, 32, 33], ∀ stop,
      (onLine false b stop).start = false ∧ byteOnLine (onLine false b stop) = b) ∧
    (∀ line ∈ (0xC3 :: doneBytes).map lineOfByte, line.start = false) ∧
    ((0xC3 :: doneBytes).map lineOfByte).map byteOnLine = 0xC3 :: doneBytes ∧
    doneBytes.length = 4 * (doneBytes.getD 3 0).toNat + 6 ∧
    rack.held = false ∧ (rack.slot 4).lane.receiver = .between ∧ (0xC2 : Byte) ≠ 0xC3 ∧
    (∀ received ∈ [[(9 : Byte)], [9, 0], [9, 0, 0]],
      ((lane4 rack fun l => { l with receiver := .inside received }).slot 4).lane.receiver = .inside received) ∧
    [(9 : Byte), 0].length < 3 ∧ [(9 : Byte), 0, 0].length = 3 ∧ 32 < (33 : Byte).toNat ∧ (32 : Byte).toNat ≤ 32 ∧
    (List.replicate 130 (0 : Byte)).length = 4 * (32 : Byte).toNat + 2 := by decide +kernel

theorem test_meets_LaneFrameRoundTrip :
    ∀ f ∈ [(⟨.data, true, 65535, 32, List.replicate 32 0⟩ : LaneFrame), ⟨.ident, false, 0, 2, [0x72000004, 1]⟩,
        ⟨.done, true, 0, 0, []⟩, ⟨.refuse, false, 7, 0, []⟩, ⟨.event, true, 3, 4, [1, 2, 3, 4]⟩],
      f.kind ∈ [LaneKind.ident, .data, .done, .refuse, .event] ∧ f.argument < 65536 ∧ f.payload.length = f.count ∧
      f.kind.admitsCount f.count = true := by decide

theorem test_meets_AnswersJudged :
    (rack.slot 2).state = .empty ∧ (settling.slot 4).state = .settling ∧
    (parseLaneFrame [] = none ∧ (rack.slot 4).state ≠ .empty ∧ (rack.slot 4).state ≠ .settling) ∧
    (parseLaneFrame identBytes = some ⟨.ident, false, 0, 2, [0x72000004, 1]⟩ ∧
      parseLaneFrame doneBytes = some ⟨.done, false, 0, 0, []⟩ ∧
      parseLaneFrame eventBytes = some ⟨.event, true, 1, 0, []⟩) ∧
    (rack.slot 4).lane.exchange = none ∧
    (∀ x ∈ [sentOnce .halt, { sentOnce .halt with phase := true }, sentOnce (.read 0x22 0 1),
        { sentOnce (.read 0x22 0 1) with cancelled := true }],
      ((exchanging rack x).slot 4).lane.exchange = some x) ∧
    (sentOnce (.read 0x22 0 1)).kind ≠ .halt ∧ (∀ tag offset count, (sentOnce (.read 0x22 0 1)).kind ≠ .write tag offset count) := by
  refine ⟨by decide, by decide, by decide, by decide +kernel, by decide, by decide, by decide, fun _ _ _ => ?_⟩
  simp [sentOnce]

theorem test_meets_MatchingAnswersEnd :
    let s := holding rack (access .read .inExchange)
    s.TagsDistinct ∧ access .read .inExchange ∈ s.transactions ∧
    (∀ kind, (sentOnce (access kind .inExchange).exchangeKind).kind = (access kind .inExchange).exchangeKind) ∧
    (Exchange.cancelled { sentOnce (.read 0x22 0 1) with cancelled := true }) = true ∧ (sentOnce .halt).kind = .halt ∧
    (Exchange.releaseEnded { sentOnce .halt with releaseEnded := true }) = true :=
  ⟨List.nodup_singleton _, List.mem_singleton_self _, fun _ => rfl, rfl, rfl, rfl⟩

theorem test_meets_IdentJudged :
    ((inState .probing).slot 4).state = .probing ∧ (sentOnce (.probe .first)).kind = .probe .first ∧
    ((rack.slot 4).state.participates = true ∧ (rack.slot 4).identity = some ⟨0x7200, 4, 1, none⟩ ∧ rack.TagsDistinct) ∧
    (0x72000004 : Word).toNat / 65536 = 0x7200 ∧ (0x72000004 : Word).toNat % 256 = 4 ∧
    (0x72000005 : Word).toNat % 256 ≠ 4 := ⟨by decide, rfl, ⟨by decide, by decide, List.nodup_nil⟩, by decide, by decide, by decide⟩

/-- The rack with 55 system notices queued, and with 56. -/
def crowdedBy (n : Nat) : State :=
  { rack with
    au := { rack.au with
      queue := (List.range n).map fun i => ⟨i + 1, .releaseDone 0 .confirmed, .fresh⟩
      nextSeq := n + 1 } }

theorem test_meets_EventsJudged :
    (((inState .probing).slot 4).state = .probing ∧ ((inState (.draining true)).slot 4).state = .draining true) ∧
    (((inState (.pending .noSpace)).slot 4).state.participates = true ∧ ((inState .unknownClass).slot 4).state = .unknownClass) ∧
    ((rack.slot 4).state = .placed ∧ (rack.slot 4).lane.resyncRequired = false ∧ (rack.slot 4).lane.eventAnswer = none ∧
      (rack.slot 4).lane.exchange = none ∧ (rack.slot 4).lane.lastEventPhase = false) ∧
    (rack.pe.catalogue.find? (fun d => d.code = (rack.slot 4).classCode) = some class72 ∧ class72.span ≤ 4 ∧ 3 < class72.span) ∧
    (windowOf rack.pe.placement 4 = some ⟨.window 4, 8192, 64, 0x7200, true, some ⟨8, 4⟩⟩ ∧ (11 : Fin 256).val = 8 + 3) ∧
    ((setFlags rack.au.enabled 11 1 false)[11] = false ∧ rack.au.enabled[11] = true) ∧
    ((crowdedBy 55).au.queue.length ≤ 55 ∧ (crowdedBy 55).au.eventCount < 56) ∧ 55 < (crowdedBy 56).au.queue.length := by
  decide +kernel

/-! ### Accesses -/

/-- A state whose Transaction Table holds `n` accesses of a slot. -/
def heldBy (k : SlotNo) (n : Nat) : State :=
  { rack with transactions := (List.range n).map fun i => ⟨byteOf (i + 64), .read, k, 0, 1, [], .waiting, 1⟩ }

/-- A state with one block free. -/
def oneFree : State := { rack with pool := rack.pool.setOwner ((List.finRange 96).drop 1) .reply }

/-- An Access Read under a view. -/
def reading (view address count : Nat) : List Byte := be16 view ++ be16 address ++ [byteOf count]

theorem test_meets_AccessRefusals :
    (∀ s ∈ [rack, inState (.pending .noSpace), heldBy 0 32, heldBy 4 4, oneFree], ∀ code fields,
      (offering s code fields).Offers ⟨code, 0x11, fields⟩) ∧
    decodeRequest ⟨0x14, 0x11, reading 1 640 0⟩ = .accessRead 1 640 0 ∧
    decodeRequest ⟨0x14, 0x11, reading 1 640 33⟩ = .accessRead 1 640 33 ∧
    decodeRequest ⟨0x15, 0x11, reading 1 640 0⟩ = .accessWrite 1 640 0 [] ∧
    decodeRequest ⟨0x15, 0x11, reading 1 640 33⟩ = .accessWrite 1 640 33 [] ∧
    decodeRequest ⟨0x15, 0x11, reading 1 640 32⟩ = .accessWrite 1 640 32 [] ∧
    decodeRequest ⟨0x15, 0x11, reading 1 8192 1 ++ [0, 0, 0, 7]⟩ = .accessWrite 1 8192 1 [7] ∧
    rack.translate 0 8192 1 .read = .refused .staleView ∧ rack.translate 1 640 1 .read = .fence 0x71000002 ∧
    (∀ s ∈ [inState (.pending .noSpace), heldBy 0 32, heldBy 4 4, oneFree],
      s.translate 1 8192 9 .read = .window 4 0) ∧
    ((inState (.pending .noSpace)).slot 4).state ≠ .placed ∧
    (((heldBy 0 32).slot 4).state = .placed ∧ 32 ≤ (heldBy 0 32).transactions.length) ∧
    ((heldBy 4 4).transactions.length < 32 ∧ 4 ≤ ((heldBy 4 4).transactions.filter fun t => t.slot = 4).length) ∧
    ((oneFree.transactions.filter fun t => t.slot = 4).length < 4 ∧
      ((List.finRange 96).filter fun b => oneFree.pool[b].owner = .free).length < (9 + 7) / 8) := by
  refine ⟨?_, by decide +kernel⟩
  intro s hs code fields
  simp only [List.mem_cons, List.not_mem_nil, or_false] at hs
  obtain rfl | rfl | rfl | rfl | rfl := hs <;> exact offers_offering _ _ rfl (by decide)

theorem test_meets_AccessAccepted :
    (∀ code fields, (offering rack code fields).Offers ⟨code, 0x11, fields⟩) ∧
    decodeRequest ⟨0x14, 0x11, reading 1 8224 32⟩ = .accessRead 1 8224 32 ∧
    decodeRequest ⟨0x15, 0x11, reading 1 8192 1 ++ [0, 0, 0, 7]⟩ = .accessWrite 1 8192 1 [7] ∧
    rack.translate 1 8224 32 .read = .window 4 32 ∧ rack.translate 1 8192 1 .write = .window 4 0 ∧
    (rack.slot 4).state = .placed ∧ rack.transactions = [] ∧
    (32 + 7) / 8 ≤ ((List.finRange 96).filter fun b => rack.pool[b].owner = .free).length ∧
    (rack.slot 4).lane.exchange = none ∧ (rack.slot 4).lane.resyncRequired = false := by
  refine ⟨fun _ _ => offers_offering _ _ rfl (by decide), ?_⟩
  decide +kernel

theorem test_meets_BlocksCarryWords :
    ([95, 0] : List BlockNo).Nodup ∧ (List.replicate 16 (7 : Word)).length ≤ 8 * ([95, 0] : List BlockNo).length := by decide

/-- The rack with an access in some state, whose exchange is outstanding. -/
def busy (st : TransactionState) (x : Exchange) : State := exchanging (holding rack (access .read st)) x

/-- A retry that waits for the transmitter. -/
def retry : Exchange := { sentOnce (.read 0x22 0 1) with sends := 2, frameWaiting := true, timer := none }

theorem test_meets_CancelAccessEffects :
    let targets := [busy .waiting retry, busy .cancelling retry, busy .inExchange retry,
      busy .inExchange (sentOnce (.read 0x22 0 1))]
    decodeRequest ⟨0x16, 0x11, [0x22]⟩ = .cancelAccess 0x22 ∧ (∀ t ∈ rack.transactions, t.tag ≠ 0x22) ∧
    (∀ s ∈ rack :: targets, (offering s 0x16 [0x22]).Offers ⟨0x16, 0x11, [0x22]⟩ ∧ s.TagsDistinct) ∧
    (∀ s ∈ targets, ∃ t ∈ s.transactions, t.tag = 0x22) ∧
    (∀ x ∈ [retry, sentOnce (.read 0x22 0 1)], ((busy .inExchange x).slot 4).lane.exchange = some x ∧
      x.kind.tag? = some 0x22) ∧
    (retry.frameWaiting = true ∧ 1 < retry.sends) ∧ (sentOnce (.read 0x22 0 1)).frameWaiting = false := by
  refine ⟨by decide, by decide, fun s hs => ?_, by decide, by decide, by decide, by decide⟩
  simp only [List.mem_cons, List.not_mem_nil, or_false] at hs
  obtain rfl | rfl | rfl | rfl | rfl := hs <;>
    exact ⟨offers_offering _ _ rfl (by decide), by first | exact List.nodup_nil | exact List.nodup_singleton _⟩

/-! ### Notices -/

/-- Numbers that pass from 65535 to 1; the oldest is SENT. -/
def wrapped : AttentionUnit :=
  { AttentionUnit.powerOn with
    queue := [⟨65535, .summary 1, .sent⟩, ⟨1, .summary 1, .fresh⟩]
    nextSeq := 2 }

theorem wrapped_consistent : wrapped.Consistent where
  length := by decide
  events := by decide
  nextSeq := by decide
  numbers := by decide
  numbering := by simp [wrapped, consecutive, nextSequence, Config.max16]
  sent := by simp [sentRun, wrapped]
  lost := by decide
  summaryFull := by decide
  summaryClear := by decide

theorem test_meets_AcknowledgeEffects :
    let s := { rack with au := wrapped }
    (∀ code fields, (offering s code fields).Offers ⟨code, 0x11, fields⟩) ∧ s.au.Consistent ∧
    (decodeRequest ⟨0x18, 0x11, [0, 2]⟩ = .acknowledgeNotices 2 ∧ ∀ n ∈ s.au.queue, n.seq ≠ 2) ∧
    (decodeRequest ⟨0x18, 0x11, [0, 1]⟩ = .acknowledgeNotices 1 ∧
      s.au.queue = [⟨65535, .summary 1, .sent⟩] ++ ⟨1, .summary 1, .fresh⟩ :: []) :=
  ⟨fun _ _ => offers_offering _ _ rfl (by decide), wrapped_consistent, by decide, by decide⟩

theorem test_meets_ResendEffects :
    let s := { rack with au := wrapped }
    (∀ code fields, (offering s code fields).Offers ⟨code, 0x11, fields⟩) ∧ s.au.Consistent ∧
    (decodeRequest ⟨0x19, 0x11, [0, 2]⟩ = .resendNotices 2 ∧ ∀ n ∈ s.au.queue, n.seq ≠ 2) ∧
    (decodeRequest ⟨0x19, 0x11, [0xFF, 0xFF]⟩ = .resendNotices 65535 ∧
      s.au.queue = [] ++ ⟨65535, .summary 1, .sent⟩ :: [⟨1, .summary 1, .fresh⟩]) :=
  ⟨fun _ _ => offers_offering _ _ rfl (by decide), wrapped_consistent, by decide, by decide⟩

theorem test_meets_SetEventEnableEffects :
    (∀ fields, (offering rack 0x1A fields).Offers ⟨0x1A, 0x11, fields⟩) ∧
    decodeRequest ⟨0x1A, 0x11, [0, 0, 0, 1]⟩ = .setEventEnable 0 0 1 ∧
    (decodeRequest ⟨0x1A, 0x11, [255, 0, 2, 1]⟩ = .setEventEnable 255 2 1 ∧ 256 < 255 + 2) ∧
    decodeRequest ⟨0x1A, 0x11, [0, 0, 1, 2]⟩ = .setEventEnable 0 1 2 ∧
    (decodeRequest ⟨0x1A, 0x11, [0, 1, 0, 0]⟩ = .setEventEnable 0 256 0 ∧ 0 + 256 ≤ 256) :=
  ⟨fun _ => offers_offering _ _ rfl (by decide), by decide, by decide, by decide, by decide⟩

theorem test_meets_PostingRule :
    ((crowdedBy 63).au.summaryDue = false ∧ (crowdedBy 63).au.queue.length < 64) ∧ 64 ≤ (crowdedBy 64).au.queue.length ∧
    { wrapped with summaryDue := true }.summaryDue = true := by decide

/-! ### The invariants, in a state with an access in exchange, a module's notices and a command waiting -/

/-- The rack, reading from slot 4, with two notices queued, when the module of slot 4 is pulled. -/
def pulled : State :=
  { busy .inExchange (sentOnce (.read 0x22 0 1)) with au := wrapped, pending := [.presenceLoss 4] }

theorem pulled_steps : ∃ t, step pulled = .next t := ⟨_, rfl⟩

theorem test_meets_NumbersStayInRange :
    (0 ≤ 65535 ∧ 65535 ≤ 65535) ∧ pulled.params.InRange ∧ pulled.NumbersInRange ∧ ∃ t, step pulled = .next t := by
  refine ⟨by decide, by constructor <;> decide, ?_, pulled_steps⟩
  constructor <;> decide +kernel

theorem test_meets_AttentionStaysConsistent : pulled.au.Consistent ∧ ∃ t, step pulled = .next t :=
  ⟨wrapped_consistent, pulled_steps⟩

theorem test_meets_CatalogueStaysConsistent : CatalogueConsistent pulled.pe.catalogue ∧ ∃ t, step pulled = .next t :=
  ⟨rack_catalogue, pulled_steps⟩

theorem only_exchange (k : SlotNo) : k = 4 ∨ (pulled.slot k).lane.exchange = none := by
  revert k
  decide

theorem pulled_slots : pulled.SlotsInvariant where
  params := by constructor <;> decide
  held := fun h => absurd h (by decide)
  slots := by
    intro k
    constructor
    · revert k; decide
    · revert k; decide
    · revert k; decide
    · revert k; decide
    · revert k; decide
    · revert k; decide
    · revert k; decide
    · intro x hx
      obtain rfl | other := only_exchange k
      · obtain rfl : sentOnce (.read 0x22 0 1) = x := Option.some.inj hx
        exact ⟨by unfold Exchange.suits; decide, by decide, by decide⟩
      · simp [other] at hx
    · intro x hx marked
      obtain rfl | other := only_exchange k
      · obtain rfl : sentOnce (.read 0x22 0 1) = x := Option.some.inj hx
        rfl
      · simp [other] at hx

theorem test_meets_SlotsStayConsistent : pulled.SlotsInvariant ∧ ∃ t, step pulled = .next t := ⟨pulled_slots, pulled_steps⟩

theorem pulled_placement : pulled.PlacementInvariant where
  consistent := ⟨rack_catalogue, rack_layout⟩
  agrees :=
    { classes := by decide
      windows := by decide
      windowClass := by decide
      members := by
        intro k h
        have found : (pulled.slot k).identity.map (fun id => decide (∃ c ∈ pulled.pe.catalogue,
            pulled.pe.lookup id.classCode = some c ∧ id.eventCount ≤ c.span)) = some true := by
          revert h
          revert k
          decide
        obtain ⟨id, hid, hc⟩ := Option.map_eq_some_iff.mp found
        obtain ⟨c, -, hc⟩ := of_decide_eq_true hc
        exact ⟨id, hid, c, hc⟩ }

theorem test_meets_PlacementStaysConsistent :
    pulled.SlotsInvariant ∧ pulled.PlacementInvariant ∧ ∃ t, step pulled = .next t :=
  ⟨pulled_slots, pulled_placement, pulled_steps⟩

theorem pulled_ledger : pulled.LedgerInvariant where
  link := by constructor <;> decide
  table := by constructor <;> decide
  pool := by constructor <;> decide +kernel

theorem test_meets_LedgerStaysBalanced : pulled.LedgerInvariant ∧ ∃ t, step pulled = .next t := ⟨pulled_ledger, pulled_steps⟩

theorem pulled_lanes : pulled.LanesInvariant where
  participates := by decide
  oldest := by
    intro k
    obtain rfl | other : k = 4 ∨ pulled.laneQueue k = [] := by revert k; decide
    · intro t ht
      simp at ht
    · simp [other, laneOrdered]
  carried := by
    intro k x hx tag htag
    obtain rfl | other := only_exchange k
    · obtain rfl : sentOnce (.read 0x22 0 1) = x := Option.some.inj hx
      obtain rfl : 0x22 = tag := Option.some.inj htag
      decide
    · simp [other] at hx
  carrying := by
    intro t ht _
    obtain rfl : t = access .read .inExchange := List.mem_singleton.mp ht
    exact ⟨sentOnce (.read 0x22 0 1), by decide, by decide⟩
  halting := by
    intro k x hx hk
    obtain rfl | other := only_exchange k
    · obtain rfl : sentOnce (.read 0x22 0 1) = x := Option.some.inj hx
      exact absurd hk (by decide)
    · simp [other] at hx

theorem test_meets_LanesStayConsistent :
    pulled.SlotsInvariant ∧ pulled.LedgerInvariant ∧ pulled.LanesInvariant ∧ ∃ t, step pulled = .next t :=
  ⟨pulled_slots, pulled_ledger, pulled_lanes, pulled_steps⟩

end Sys2Proof.Tests
end

section
/-! SUPPORT. The commands of the Class Catalogue (chapter 1): the rules of Define Class and Read Class that the statements
about them need, and the proofs of those statements. -/

namespace Sys2Proof.Machine

/-! ## The taking of a request -/

/-- The command of a request at the head that can be taken has its effect on the state the head has left (R149). -/
theorem State.Offers.take_eq {s u : State} {r : HostRequest} {f : HostRequest → Request → State → Option State}
    (offer : s.Offers r) (served : f r (decodeRequest r) s.dropHead = some u) : s.take f = .next u.transmit :=
  State.take_some offer.running offer.room offer.head served

/-- The reply to a head that has just been taken, in the terms of the statements. -/
@[simp] theorem State.dropHead_answer (s : State) (r : HostRequest) (status : Status) (fields : ReplyFields) :
    s.dropHead.answer r status fields = s.replied r status fields := rfl

/-! ## The request of a Define Class (R168) -/

theorem num16_lt (hi lo : Byte) : num16 hi lo < 65536 := by
  have := hi.isLt
  have := lo.isLt
  unfold num16
  omega

section
variable (fields : List Byte) (f : ClassFields)

theorem oneByte_ne_defineClass {g : Nat → Request} (other : ∀ n, g n ≠ .defineClass f) :
    oneByte fields g ≠ .defineClass f := by
  unfold oneByte
  split
  · exact other _
  · simp

theorem oneHalf_ne_defineClass {g : Nat → Request} (other : ∀ n, g n ≠ .defineClass f) :
    oneHalf fields g ≠ .defineClass f := by
  unfold oneHalf
  split
  · exact other _
  · simp

theorem decodeSetParameters_ne_defineClass : decodeSetParameters fields ≠ .defineClass f := by
  unfold decodeSetParameters
  split <;> simp

theorem decodeAccessRead_ne_defineClass : decodeAccessRead fields ≠ .defineClass f := by
  unfold decodeAccessRead
  split <;> simp

theorem decodeAccessWrite_ne_defineClass : decodeAccessWrite fields ≠ .defineClass f := by
  unfold decodeAccessWrite
  split
  · split
    · split <;> simp
    · simp
  · simp

theorem decodeSetEventEnable_ne_defineClass : decodeSetEventEnable fields ≠ .defineClass f := by
  unfold decodeSetEventEnable
  split <;> simp

theorem decodeReadCounters_ne_defineClass : decodeReadCounters fields ≠ .defineClass f := by
  unfold decodeReadCounters
  split <;> simp

end

theorem ite_ne {α : Type} {p : Prop} [Decidable p] {a b c : α} (ha : a ≠ c) (hb : b ≠ c) :
    (if p then a else b) ≠ c := by
  split <;> assumption

/-- Only a body with the code of Define Class is read as one. -/
theorem decodeRequest_ne_defineClass {r : HostRequest} (code : r.code ≠ 0x08) (f : ClassFields) :
    decodeRequest r ≠ .defineClass f := by
  have byte {g : Nat → Request} := oneByte_ne_defineClass (g := g) r.fields f
  have half {g : Nat → Request} := oneHalf_ne_defineClass (g := g) r.fields f
  unfold decodeRequest
  rw [if_neg code]
  exact ite_ne (byte nofun) <| ite_ne (decodeSetParameters_ne_defineClass _ _) <| ite_ne (byte nofun) <|
    ite_ne (byte nofun) <| ite_ne (half nofun) <| ite_ne (byte nofun) <| ite_ne (byte nofun) <| ite_ne (byte nofun) <|
    ite_ne (half nofun) <| ite_ne (byte nofun) <| ite_ne (byte nofun) <| ite_ne (byte nofun) <|
    ite_ne (decodeAccessRead_ne_defineClass _ _) <| ite_ne (decodeAccessWrite_ne_defineClass _ _) <|
    ite_ne (byte nofun) <| ite_ne (half nofun) <| ite_ne (half nofun) <|
    ite_ne (decodeSetEventEnable_ne_defineClass _ _) <| ite_ne (decodeReadCounters_ne_defineClass _ _) nofun

theorem decodeDefineClass_of_decodeRequest {r : HostRequest} {f : ClassFields}
    (h : decodeRequest r = .defineClass f) : decodeDefineClass r.fields = .defineClass f := by
  have code : r.code = 0x08 := by
    by_contra other
    exact decodeRequest_ne_defineClass other f h
  simpa [decodeRequest, code] using h

/-- The class code of a Define Class is a 16-bit number. -/
theorem code_lt_of_decodeRequest {r : HostRequest} {f : ClassFields} (h : decodeRequest r = .defineClass f) :
    f.code < 65536 := by
  have h := decodeDefineClass_of_decodeRequest h
  unfold decodeDefineClass at h
  split at h
  · injection h with h
    subst h
    exact num16_lt _ _
  · cases h

/-! ## Check 1 of R4 -/

theorem ClassFields.check_of_badParam {f : ClassFields} (bad : f.BadParam) : f.check = none := by
  unfold ClassFields.check Config.windowSpace
  simp only [ClassFields.BadParam, Nat.dvd_iff_mod_eq_zero] at bad
  split_ifs with range anchor
  · rfl
  · rfl
  · omega

theorem ClassFields.check_of_not_badParam {f : ClassFields} (code : f.code < 65536) (good : ¬f.BadParam) :
    f.check = some f.entry := by
  unfold ClassFields.check Config.windowSpace
  simp only [ClassFields.BadParam, Nat.dvd_iff_mod_eq_zero] at good
  rw [if_neg (by omega), if_neg (by omega)]
  rfl

/-! ## Checks 2 to 5 of R4 -/

theorem PlacementEngine.lookup_isSome_iff (pe : PlacementEngine) (code : Nat) :
    (pe.lookup code).isSome = true ↔ ∃ d ∈ pe.catalogue, d.code = code := by
  simp [PlacementEngine.lookup]

theorem PlacementEngine.lookup_isNone_iff (pe : PlacementEngine) (code : Nat) :
    (pe.lookup code).isNone = true ↔ ¬∃ d ∈ pe.catalogue, d.code = code := by
  rw [← PlacementEngine.lookup_isSome_iff]
  simp

theorem State.classInUse_iff (s : State) (code : Nat) : s.classInUse code = true ↔ s.Carried code := by
  simp [State.classInUse, State.members, State.Carried, mem_slotNumbers]

theorem Region.overlaps_iff (a b : Region) : a.overlaps b = true ↔ ¬Region.Disjoint a b := by
  simp only [Region.overlaps, Region.Disjoint, Bool.and_eq_true, decide_eq_true_eq]
  omega

/-- A class without an anchor conflicts with none; an anchored one with each anchored class of another code whose region
shares a word with its own (R3, R4). -/
theorem anchorConflict_iff (catalogue : List ClassEntry) (f : ClassFields) :
    anchorConflict catalogue f.entry = true ↔ f.AnchorConflict catalogue := by
  by_cases anchored : f.anchorIndication = 1
  · have region : f.entry.region? = some ⟨f.anchorBase, f.size⟩ := by
      simp [ClassEntry.region?, ClassFields.entry, anchored]
    have conflicts (d : ClassEntry) :
        (d.region?.map (Region.overlaps ⟨f.anchorBase, f.size⟩)).getD false = true ↔
          ∃ b, d.anchor = some b ∧ ¬Region.Disjoint ⟨f.anchorBase, f.size⟩ ⟨b, d.size⟩ := by
      cases h : d.anchor <;> simp [ClassEntry.region?, h, Region.overlaps_iff]
    have code : f.entry.code = f.code := rfl
    simp [anchorConflict, region, withoutClass, conflicts, ClassFields.AnchorConflict, anchored, code]
  · simp [anchorConflict, ClassEntry.region?, ClassFields.entry, ClassFields.AnchorConflict, anchored]

open Classical in
/-- Checks 2 to 5 of R4 in the terms of the statements. -/
theorem State.refuseDefine_entry (s : State) (f : ClassFields) :
    s.refuseDefine f.entry =
      if ∃ d ∈ s.pe.catalogue, d.rank = f.rank ∧ d.code ≠ f.code then some .rankTaken
      else if (¬∃ d ∈ s.pe.catalogue, d.code = f.code) ∧ 32 ≤ s.pe.catalogue.length then some .catalogueFull
      else if f.AnchorConflict s.pe.catalogue then some .anchorConflict
      else if (∃ d ∈ s.pe.catalogue, d.code = f.code) ∧ s.Carried f.code then some .classInUse
      else none := by
  have ranked : (s.pe.catalogue.any fun d => d.rank == f.rank && !(d.code == f.code)) = true ↔
      ∃ d ∈ s.pe.catalogue, d.rank = f.rank ∧ d.code ≠ f.code := by simp
  have code : f.entry.code = f.code := rfl
  have rank : f.entry.rank = f.rank := rfl
  simp only [State.refuseDefine, code, rank, ranked, PlacementEngine.lookup_isNone_iff,
    PlacementEngine.lookup_isSome_iff, anchorConflict_iff, State.classInUse_iff, Config.catalogueCapacity]

@[simp] theorem State.dropHead_refuseDefine (s : State) (c : ClassEntry) :
    s.dropHead.refuseDefine c = s.refuseDefine c := rfl

/-! ## The effect and the reply of a Define Class (R4 to R7) -/

theorem State.serveDefine_refused {s : State} {c : ClassEntry} {status : Status} (r : HostRequest)
    (refused : s.refuseDefine c = some status) : s.serveDefine r c = s.answer r status .none := by
  simp only [State.serveDefine, refused]

theorem State.serveDefine_redefined {s : State} {c : ClassEntry} (r : HostRequest) (passed : s.refuseDefine c = none)
    (known : ∃ d ∈ s.pe.catalogue, d.code = c.code) :
    s.serveDefine r c = (s.redefineClass c).answer r .ok (.defined .redefined 0 (s.redefineClass c).pe.stamp) := by
  simp only [State.serveDefine, passed, (s.pe.lookup_isSome_iff c.code).mpr known, if_true]

theorem State.serveDefine_created {s : State} {c : ClassEntry} (r : HostRequest) (passed : s.refuseDefine c = none)
    (new : ¬∃ d ∈ s.pe.catalogue, d.code = c.code) :
    s.serveDefine r c =
      (s.addClass c).answer r .ok (.defined .created (s.waitingFor c.code).length (s.addClass c).pe.stamp) := by
  simp only [State.serveDefine, passed, mt (s.pe.lookup_isSome_iff c.code).mp new, Bool.false_eq_true, if_false]

theorem State.foldl_rejudge_keepsTraffic (slots : List SlotNo) (s : State) :
    s.KeepsTraffic (slots.foldl State.rejudge s) := by
  induction slots generalizing s with
  | nil => exact .refl s
  | cons k slots ih => exact (s.rejudge_keepsTraffic k).trans (ih _)

/-- Adding a class and re-judging the slots that wait for it keeps the traffic (R5, R7). -/
theorem State.addClass_keepsTraffic (s : State) (c : ClassEntry) : s.KeepsTraffic (s.addClass c) := by
  have added : s.KeepsTraffic
      (State.bumpStamp { s with pe := { s.pe with catalogue := insertByRank c s.pe.catalogue } }) :=
    ⟨rfl, rfl, rfl, rfl, rfl, rfl, rfl⟩
  exact added.trans (State.foldl_rejudge_keepsTraffic _ _)

@[simp] theorem State.redefineClass_hli (s : State) (c : ClassEntry) : (s.redefineClass c).hli = s.hli := rfl

/-- A Define Class that no check refuses produces one reply, with status OK (R5, R6). -/
theorem State.serveDefine_replies {s : State} {c : ClassEntry} (r : HostRequest) (passed : s.refuseDefine c = none) :
    ∃ fields, (s.serveDefine r c).hli.replies = s.hli.replies ++ [⟨replyCode r.code, r.tag, .ok, fields⟩] := by
  by_cases known : ∃ d ∈ s.pe.catalogue, d.code = c.code
  · exact ⟨_, by rw [State.serveDefine_redefined r passed known]; rfl⟩
  · exact ⟨_, by rw [State.serveDefine_created r passed known, State.answer_hli, (s.addClass_keepsTraffic c).hli]⟩

theorem exec_defineClass (s : State) : exec .defineClass s = execDefineClass s := rfl

section
variable {s : State} {r : HostRequest} {f : ClassFields} (offer : s.Offers r)
  (request : decodeRequest r = .defineClass f)
include offer request

/-- A Define Class that fails check 1 of R4. -/
theorem exec_defineClass_of_badParam (bad : f.BadParam) :
    exec .defineClass s = .next (s.replied r .badParam .none).transmit := by
  rw [exec_defineClass]
  exact offer.take_eq (by simp only [request, ClassFields.check_of_badParam bad]; rfl)

/-- A Define Class that passes check 1 of R4 is served with the entry its fields describe. -/
theorem exec_defineClass_of_not_badParam (good : ¬f.BadParam) :
    exec .defineClass s = .next (s.dropHead.serveDefine r f.entry).transmit := by
  rw [exec_defineClass]
  exact offer.take_eq (by
    simp only [request, ClassFields.check_of_not_badParam (code_lt_of_decodeRequest request) good])

/-- A Define Class that one of checks 2 to 5 of R4 refuses. -/
theorem exec_defineClass_of_refused {status : Status} (good : ¬f.BadParam)
    (refused : s.refuseDefine f.entry = some status) :
    exec .defineClass s = .next (s.replied r status .none).transmit := by
  rw [exec_defineClass_of_not_badParam offer request good, State.serveDefine_refused r (by simpa using refused),
    State.dropHead_answer]

/-- A Define Class that passes the five checks of R4 is answered OK. -/
theorem exec_defineClass_of_passed (good : ¬f.BadParam) (passed : s.refuseDefine f.entry = none) :
    ∃ t fields, exec .defineClass s = .next t ∧
      t.hli.replies = s.hli.replies ++ [⟨replyCode r.code, r.tag, .ok, fields⟩] := by
  obtain ⟨fields, replies⟩ := State.serveDefine_replies (s := s.dropHead) r (by simpa using passed)
  exact ⟨_, fields, exec_defineClass_of_not_badParam offer request good, by simpa using replies⟩

end

/-- Settles O19: each of checks 2 to 5 is a branch of `State.refuseDefine`, taken once the checks before it have passed. -/
theorem defineClassChecks : Obligations.DefineClassChecks := by
  unfold Obligations.DefineClassChecks
  intro s r f offer request
  refine ⟨exec_defineClass_of_badParam offer request, fun good ranked => ?_, fun good unranked full => ?_,
    fun good unranked room conflict => ?_, fun good unranked room clear used => ?_,
    fun good unranked room clear unused => ?_⟩
  · exact exec_defineClass_of_refused offer request good (by rw [State.refuseDefine_entry, if_pos ranked])
  · exact exec_defineClass_of_refused offer request good
      (by rw [State.refuseDefine_entry, if_neg unranked, if_pos full])
  · exact exec_defineClass_of_refused offer request good
      (by rw [State.refuseDefine_entry, if_neg unranked, if_neg room, if_pos conflict])
  · exact exec_defineClass_of_refused offer request good
      (by rw [State.refuseDefine_entry, if_neg unranked, if_neg room, if_neg clear, if_pos used])
  · exact exec_defineClass_of_passed offer request good
      (by rw [State.refuseDefine_entry, if_neg unranked, if_neg room, if_neg clear, if_neg unused])

/-! ## Read Class (R10) -/

theorem PlacementEngine.atRank_eq_none {pe : PlacementEngine} {rank : Nat} (free : ∀ c ∈ pe.catalogue, c.rank ≠ rank) :
    pe.atRank rank = none := by
  simpa [PlacementEngine.atRank] using free

/-- In a consistent catalogue no two entries have the same rank (R1). -/
theorem CatalogueConsistent.eq_of_rank_eq {catalogue : List ClassEntry} (consistent : CatalogueConsistent catalogue)
    {c d : ClassEntry} (hc : c ∈ catalogue) (hd : d ∈ catalogue) (same : c.rank = d.rank) : c = d := by
  have distinct : (catalogue.map ClassEntry.rank).Nodup := List.pairwise_map.mpr (consistent.ranks.imp Nat.ne_of_lt)
  exact List.inj_on_of_nodup_map distinct hc hd same

theorem CatalogueConsistent.atRank_eq_some {pe : PlacementEngine} (consistent : CatalogueConsistent pe.catalogue)
    {c : ClassEntry} (hc : c ∈ pe.catalogue) : pe.atRank c.rank = some c := by
  cases found : pe.atRank c.rank with
  | none => simpa using List.find?_eq_none.mp found c hc
  | some d =>
    have rank : d.rank = c.rank := by simpa using List.find?_some found
    rw [consistent.eq_of_rank_eq (List.mem_of_find?_eq_some found) hc rank]

theorem exec_readClass (s : State) : exec .readClass s = execReadClass s := rfl

/-- The taking of a Read Class (R10, R149). -/
theorem exec_readClass_of_offers {s : State} {r : HostRequest} {rank : Nat} (offer : s.Offers r)
    (request : decodeRequest r = .readClass rank) :
    exec .readClass s = .next (s.dropHead.serveReadClass r rank).transmit := by
  rw [exec_readClass]
  exact offer.take_eq (by simp only [request])

/-- Settles O23: the ranks of a consistent catalogue are distinct, so the entry that the rank finds is the one named. -/
theorem readClassReports : Obligations.ReadClassReports := by
  unfold Obligations.ReadClassReports
  intro s r rank offer request
  rw [exec_readClass_of_offers offer request]
  refine ⟨fun high => ?_, fun low free => ?_, ?_⟩
  · rw [State.serveReadClass, if_pos high, State.dropHead_answer]
  · have none_found : s.dropHead.pe.atRank rank = none := PlacementEngine.atRank_eq_none free
    simp only [State.serveReadClass, if_neg (Nat.not_lt.mpr low), none_found, State.dropHead_answer]
  · rintro low consistent c hc rfl
    have found : s.dropHead.pe.atRank c.rank = some c := consistent.atRank_eq_some hc
    constructor
    · simp only [State.serveReadClass, if_neg (Nat.not_lt.mpr low), found, State.dropHead_answer]
    · cases anchor : c.anchor <;> simp [ReplyFields.toBytes, ClassEntry.toBytes, anchor, boolByte, be16, byteOf]

end Sys2Proof.Machine
end

section
/-! SUPPORT. The parameters (chapter 9): the check of Set Parameters, what an accepted and a refused one leave in force, and
the proof of the statement about Read Parameters. -/

namespace Sys2Proof.Machine

/-! ## The range check of Set Parameters (R157, R158) -/

/-- The check passes in-range fields alone, and turns them into the parameters they were written from. -/
theorem ParamFields.check_eq_some_iff {f : ParamFields} {p : Params} :
    f.check = some p ↔ p.InRange ∧ f = p.fields := by
  constructor
  · intro passed
    unfold ParamFields.check Config.max16 at passed
    split at passed
    next range =>
      obtain ⟨policy, runBase, settleLow, settleHigh, replyLow, replyHigh, retry, faultLow, faultHigh, noticeLow,
        noticeHigh, gapLow, gapHigh⟩ := range
      obtain rfl := Option.some.inj passed
      refine ⟨⟨runBase, ⟨settleLow, settleHigh⟩, ⟨replyLow, replyHigh⟩, retry, ⟨faultLow, faultHigh⟩,
        ⟨noticeLow, noticeHigh⟩, ⟨gapLow, gapHigh⟩⟩, ?_⟩
      obtain ⟨joinPolicy, _, _, _, _, _, _, _⟩ := f
      obtain rfl | rfl : joinPolicy = 0 ∨ joinPolicy = 1 := Nat.le_one_iff_eq_zero_or_eq_one.mp policy
      · rfl
      · rfl
    next => cases passed
  · rintro ⟨⟨runBase, settle, reply, retry, fault, notice, gap⟩, rfl⟩
    have policy : p.fields.joinPolicy ≤ 1 := by
      cases h : p.joinPolicy <;> simp [Params.fields, h]
    obtain ⟨joinPolicy, _, _, _, _, _, _, _⟩ := p
    rw [ParamFields.check, if_pos ⟨policy, runBase, settle.1, settle.2, reply.1, reply.2, retry, fault.1, fault.2,
      notice.1, notice.2, gap.1, gap.2⟩]
    cases joinPolicy with
    | fillOnly => rfl
    | autoCommit => rfl

theorem ParamFields.check_fields {p : Params} (range : p.InRange) : p.fields.check = some p :=
  ParamFields.check_eq_some_iff.mpr ⟨range, rfl⟩

theorem ParamFields.check_eq_none {f : ParamFields} (bad : ∀ p : Params, p.InRange → f ≠ p.fields) :
    f.check = none := by
  rw [Option.eq_none_iff_forall_ne_some]
  intro p passed
  obtain ⟨range, same⟩ := ParamFields.check_eq_some_iff.mp passed
  exact bad p range same

/-! ## The taking of Set Parameters and Read Parameters (R158, R160) -/

/-- Whether or not the Run Base differs, the new parameters are in force (R158). -/
@[simp] theorem State.setParams_params (s : State) (p : Params) : (s.setParams p).params = p := by
  unfold State.setParams
  dsimp only
  split
  · rw [State.bumpStamp_params]
  · rfl

@[simp] theorem State.replied_params (s : State) (r : HostRequest) (status : Status) (fields : ReplyFields) :
    (s.replied r status fields).params = s.params := rfl

theorem exec_setParameters (s : State) : exec .setParameters s = execSetParameters s := rfl

theorem exec_readParameters (s : State) : exec .readParameters s = execReadParameters s := rfl

section
variable {s : State} {r : HostRequest} (offer : s.Offers r)
include offer

/-- A Set Parameters whose values all lie in their ranges (R158). -/
theorem exec_setParameters_of_passed {f : ParamFields} {p : Params} (request : decodeRequest r = .setParameters f)
    (passed : f.check = some p) :
    exec .setParameters s =
      .next ((s.dropHead.setParams p).answer r .ok (.stamp (s.dropHead.setParams p).pe.stamp)).transmit := by
  rw [exec_setParameters]
  exact offer.take_eq (by simp only [request, passed])

/-- A Set Parameters with a value out of its range (R158). -/
theorem exec_setParameters_of_refused {f : ParamFields} (request : decodeRequest r = .setParameters f)
    (refused : f.check = none) : exec .setParameters s = .next (s.replied r .badParam .none).transmit := by
  rw [exec_setParameters]
  exact offer.take_eq (by simp only [request, refused, State.dropHead_answer])

/-- The taking of a Read Parameters (R160). -/
theorem exec_readParameters_of_offers (request : decodeRequest r = .readParameters) :
    exec .readParameters s = .next (s.replied r .ok (.params s.params)).transmit := by
  rw [exec_readParameters]
  exact offer.take_eq (by simp only [request, State.dropHead_params, State.dropHead_answer])

/-- An accepted Set Parameters leaves its values in force. -/
theorem params_of_exec_setParameters_passed {t : State} {f : ParamFields} {p : Params}
    (request : decodeRequest r = .setParameters f) (passed : f.check = some p) (step : exec .setParameters s = .next t) :
    t.params = p := by
  rw [exec_setParameters_of_passed offer request passed] at step
  injection step with next
  rw [← next, State.transmit_params, State.answer_params, State.setParams_params]

/-- A refused Set Parameters leaves the parameters as they were. -/
theorem params_of_exec_setParameters_refused {t : State} {f : ParamFields}
    (request : decodeRequest r = .setParameters f) (refused : f.check = none) (step : exec .setParameters s = .next t) :
    t.params = s.params := by
  rw [exec_setParameters_of_refused offer request refused] at step
  injection step with next
  rw [← next, State.transmit_params, State.replied_params]

end

/-- Settles O15: Read Parameters reports the parameters of the state it meets, and the check of the Set Parameters before
it decides which those are. -/
theorem readParametersReports : Obligations.ReadParametersReports := by
  unfold Obligations.ReadParametersReports
  refine ⟨fun s r offer request => exec_readParameters_of_offers offer request, ?accepted, ?refused⟩
  case accepted =>
    intro s t r r' p offer request range step offer' request'
    have inForce : t.params = p :=
      params_of_exec_setParameters_passed offer request (ParamFields.check_fields range) step
    rw [exec_readParameters_of_offers offer' request', inForce]
  case refused =>
    intro s t r r' f offer request bad step offer' request'
    have inForce : t.params = s.params :=
      params_of_exec_setParameters_refused offer request (ParamFields.check_eq_none bad) step
    rw [exec_readParameters_of_offers offer' request', inForce]

end Sys2Proof.Machine
end

section
/-! SUPPORT. The steps of the part: what each command does where its step comes about, what any command can do, and the
proofs of the statements about the queue of commands and the power-on reset. -/

namespace Sys2Proof.Machine

/-! ## The taking of a request -/

/-- What the taking of a request does to the state its head has left, request by request (R150). -/
def State.serve (s : State) (r : HostRequest) : Request → State
  | .unknown => s.answer r .unknownRequest .none
  | .badFormat => s.answer r .badFormat .none
  | .queryPart =>
    s.answer r .ok (.part
      { generation := s.pe.generation, stamp := s.pe.stamp, joinPolicy := s.params.joinPolicy,
        freeBlocks := s.pool.freeBlocks.length, transactionsInUse := s.transactions.length })
  | .setParameters f =>
    match f.check with
    | some p => (s.setParams p).answer r .ok (.stamp (s.setParams p).pe.stamp)
    | none => s.answer r .badParam .none
  | .readParameters => s.answer r .ok (.params s.params)
  | .restart scope =>
    if scope = 0 then s.serveRestart r .keepCatalogue
    else if scope = 1 then s.serveRestart r .full
    else s.answer r .badParam .none
  | .defineClass f =>
    match f.check with
    | some c => s.serveDefine r c
    | none => s.answer r .badParam .none
  | .dropClass code => s.serveDrop r code
  | .readClass rank => s.serveReadClass r rank
  | .readPlacement start => s.serveReadPlacement r start
  | .readDraft start => s.serveReadDraft r start
  | .commitPlacement stamp => s.serveCommit r stamp
  | .readSlot slot => s.serveReadSlot r slot
  | .resetSlot slot => s.serveResetSlot r slot
  | .releaseSlot slot => s.serveReleaseSlot r slot
  | .accessRead view address count => s.serveRead r view address count
  | .accessWrite view address count data => s.serveWrite r view address count data
  | .cancelAccess target => s.serveCancel r target
  | .acknowledgeNotices seq => s.serveAcknowledge r seq
  | .resendNotices seq => s.serveResend r seq
  | .setEventEnable first count setting => s.serveEventEnable r first count setting
  | .readCounters selector lane clear => s.serveReadCounters r selector lane clear

/-- The command of the request on offer serves it (R149, R150). -/
theorem State.Offers.exec_command {s : State} {r : HostRequest} (offer : s.Offers r) {q : Request}
    (request : decodeRequest r = q) : exec q.command s = .next (s.dropHead.serve r q).transmit := by
  cases q with
  | setParameters f =>
    simp only [Request.command, exec]
    refine offer.take_eq ?_
    simp only [request, State.serve]
    cases f.check <;> rfl
  | defineClass f =>
    simp only [Request.command, exec]
    refine offer.take_eq ?_
    simp only [request, State.serve]
    cases f.check <;> rfl
  | restart scope =>
    simp only [Request.command, exec]
    refine offer.take_eq ?_
    simp only [request, State.serve]
    split_ifs <;> rfl
  | _ =>
    simp only [Request.command, exec]
    exact offer.take_eq (by simp only [request, State.serve])

/-- A command that takes requests does nothing with a request of another command. -/
theorem exec_eq_take {c : Instr} (takes : takesRequest c) :
    ∃ f : HostRequest → Request → State → Option State,
      (∀ s, exec c s = s.take f) ∧ ∀ r q u, q.command ≠ c → f r q u = none := by
  obtain ⟨q, rfl⟩ := takes
  cases q with
  | unknown =>
    simp only [Request.command, exec]
    refine ⟨_, fun _ => rfl, fun r q u other => ?_⟩
    split
    · exact absurd rfl other
    · exact absurd rfl other
    · rfl
  | badFormat =>
    simp only [Request.command, exec]
    refine ⟨_, fun _ => rfl, fun r q u other => ?_⟩
    split
    · exact absurd rfl other
    · exact absurd rfl other
    · rfl
  | _ =>
    simp only [Request.command, exec]
    refine ⟨_, fun _ => rfl, fun r q u other => ?_⟩
    split
    · exact absurd rfl other
    · rfl

theorem State.head?_eq_some {s : State} {r : HostRequest} (h : s.head? = some r) : s.Offers r := by
  unfold State.head? Config.owedLimit at h
  split at h
  · cases h
  · split at h
    · exact ⟨by simpa using ‹¬s.held = true›, ‹_›, h⟩
    · cases h

/-- A command that takes requests idles where no request of its own is on offer (log 3). -/
theorem exec_of_no_offer {c : Instr} {s : State} (takes : takesRequest c)
    (other : ∀ r, s.Offers r → (decodeRequest r).command ≠ c) : exec c s = .next s := by
  obtain ⟨f, run, idle⟩ := exec_eq_take takes
  rw [run, State.take]
  cases head : s.head? with
  | none => rfl
  | some r => simp only [idle r _ s.dropHead (other r (State.head?_eq_some head))]

/-! ## The events of the part -/

theorem slotNo?_eq_some {n : Nat} {k : SlotNo} : slotNo? n = some k ↔ n = k.val := by
  constructor
  · intro h
    unfold slotNo? at h
    split at h
    · exact congrArg Fin.val (Option.some.inj h)
    · cases h
  · rintro rfl
    exact slotNo?_val k

/-- The steps that take no request and come about while the part runs, with the state before the transmitter's choice. -/
inductive State.Happens (s : State) : Instr → State → Prop
  | hostByteReceived (line : LineByte) (low : line.start = false) :
    s.Happens (.hostByteReceived line) (s.takeHostByte (byteOnLine line))
  | gapTimerExpiry (inFrame : s.hli.receiver.inFrame = true) :
    s.Happens .gapTimerExpiry
      ((s.setReceiver .hunting).countLink fun c => { c with gapAbandon := bump c.gapAbandon })
  | hostFrameSent (f : HostSending) (sending : s.hli.sending = some f) :
    s.Happens .hostFrameSent (s.hostFrameSent f.source)
  | presenceRise (k : SlotNo) (state : (s.slot k).state = .empty) :
    s.Happens (.presenceRise k.val) (s.modSlot k fun sl => sl.beginSettling s.params.settleTime)
  | presenceLoss (k : SlotNo) (state : (s.slot k).state ≠ .empty) :
    s.Happens (.presenceLoss k.val) (s.losePresence k)
  | settlePeriodExpiry (k : SlotNo) (state : (s.slot k).state = .settling) :
    s.Happens (.settlePeriodExpiry k.val) (s.enterProbing k)
  | laneByteReceived (k : SlotNo) (line : LineByte) (low : line.start = false) :
    s.Happens (.laneByteReceived k.val line) (s.takeLaneByte k (byteOnLine line))
  | laneSilenceTimeout (k : SlotNo) (received : List Byte) (inside : (s.slot k).lane.receiver = .inside received) :
    s.Happens (.laneSilenceTimeout k.val) ((s.setLaneReceiver k .between).countUngood k)
  | replyTimeExpiry (k : SlotNo) (x : Exchange) (exchange : (s.slot k).lane.exchange = some x)
    (timer : x.timer.isSome = true) : s.Happens (.replyTimeExpiry k.val) ((s.replyExpired k x).advance k)
  | laneFrameSent (k : SlotNo) (f : LaneSending) (sending : (s.slot k).lane.sending = some f) :
    s.Happens (.laneFrameSent k.val) ((s.modLane k fun l => l.frameSent f).laneTransmit k)

theorem exec_hostByteReceived (line : LineByte) (s : State) :
    exec (.hostByteReceived line) s = s.event fun s => (takeLine? line).map s.takeHostByte := rfl

theorem exec_gapTimerExpiry (s : State) :
    exec .gapTimerExpiry s = s.event fun s =>
      if s.hli.receiver.inFrame then
        some ((s.setReceiver .hunting).countLink fun c => { c with gapAbandon := bump c.gapAbandon })
      else none := rfl

theorem exec_hostFrameSent (s : State) :
    exec .hostFrameSent s = s.event fun s => s.hli.sending.map fun f => s.hostFrameSent f.source := rfl

theorem exec_presenceRise (n : Nat) (s : State) :
    exec (.presenceRise n) s = s.slotEvent n fun k s =>
      if (s.slot k).state = .empty then some (s.modSlot k fun sl => sl.beginSettling s.params.settleTime) else none := rfl

theorem exec_presenceLoss (n : Nat) (s : State) :
    exec (.presenceLoss n) s = s.slotEvent n fun k s =>
      if (s.slot k).state = .empty then none else some (s.losePresence k) := rfl

theorem exec_settlePeriodExpiry (n : Nat) (s : State) :
    exec (.settlePeriodExpiry n) s = s.slotEvent n fun k s =>
      if (s.slot k).state = .settling then some (s.enterProbing k) else none := rfl

theorem exec_laneByteReceived (n : Nat) (line : LineByte) (s : State) :
    exec (.laneByteReceived n line) s = s.slotEvent n fun k s => (takeLine? line).map (s.takeLaneByte k) := rfl

theorem exec_laneSilenceTimeout (n : Nat) (s : State) :
    exec (.laneSilenceTimeout n) s = s.slotEvent n fun k s =>
      match (s.slot k).lane.receiver with
      | .between => none
      | .inside _ => some ((s.setLaneReceiver k .between).countUngood k) := rfl

theorem exec_replyTimeExpiry (n : Nat) (s : State) :
    exec (.replyTimeExpiry n) s = s.slotEvent n fun k s =>
      match (s.slot k).lane.exchange with
      | some x => if x.timer.isSome then some ((s.replyExpired k x).advance k) else none
      | none => none := rfl

theorem exec_laneFrameSent (n : Nat) (s : State) :
    exec (.laneFrameSent n) s = s.slotEvent n fun k s =>
      (s.slot k).lane.sending.map fun f => (s.modLane k fun l => l.frameSent f).laneTransmit k := rfl

/-- An event of the part runs its effect, and the idle transmitter then makes its choice (log 8). -/
theorem State.Happens.exec_eq {s u : State} {c : Instr} (happens : s.Happens c u) (running : s.held = false) :
    exec c s = .next u.transmit := by
  cases happens with
  | hostByteReceived line low =>
    exact (exec_hostByteReceived line s).trans
      (State.event_some running (by simp only [takeLine?_low low, Option.map_some]))
  | gapTimerExpiry inFrame => exact (exec_gapTimerExpiry s).trans (State.event_some running (if_pos inFrame))
  | hostFrameSent f sending =>
    exact (exec_hostFrameSent s).trans (State.event_some running (by simp only [sending, Option.map_some]))
  | presenceRise k state => exact (exec_presenceRise k.val s).trans ((s.slotEvent_val k _).trans (State.event_some running (if_pos state)))
  | presenceLoss k state => exact (exec_presenceLoss k.val s).trans ((s.slotEvent_val k _).trans (State.event_some running (if_neg state)))
  | settlePeriodExpiry k state => exact (exec_settlePeriodExpiry k.val s).trans ((s.slotEvent_val k _).trans (State.event_some running (if_pos state)))
  | laneByteReceived k line low =>
    exact (exec_laneByteReceived k.val line s).trans ((s.slotEvent_val k _).trans (State.event_some running (by simp only [takeLine?_low low, Option.map_some])))
  | laneSilenceTimeout k received inside =>
    exact (exec_laneSilenceTimeout k.val s).trans ((s.slotEvent_val k _).trans (State.event_some running (by simp only [inside])))
  | replyTimeExpiry k x exchange timer =>
    exact (exec_replyTimeExpiry k.val s).trans ((s.slotEvent_val k _).trans (State.event_some running (by simp only [exchange, timer, if_true])))
  | laneFrameSent k f sending =>
    exact (exec_laneFrameSent k.val s).trans ((s.slotEvent_val k _).trans (State.event_some running (by simp only [sending, Option.map_some])))

theorem takeLine?_eq_some {line : LineByte} {b : Byte} :
    takeLine? line = some b ↔ line.start = false ∧ byteOnLine line = b := by
  cases h : line.start <;> simp [takeLine?, h]

/-- What an event command can do: nothing, or an event of the part. -/
theorem exec_event_cases {c : Instr} {s t : State} (next : exec c s = .next t) (reset : c ≠ .powerOnReset)
    (resetEnd : ∀ a b p, c ≠ .resetEnd a b p) (event : ¬takesRequest c) :
    t = s ∨ (s.held = false ∧ ∃ u, s.Happens c u ∧ t = u.transmit) := by
  have none_event (q : Request) : q.command ≠ c := fun h => event ⟨q, h⟩
  cases c with
  | powerOnReset => exact absurd rfl reset
  | resetEnd a b p => exact absurd rfl (resetEnd a b p)
  | hostByteReceived line =>
    rw [exec_hostByteReceived] at next
    refine (State.event_cases next).imp_right ?_
    rintro ⟨running, u, effect, rfl⟩
    obtain ⟨b, taken, rfl⟩ := Option.map_eq_some_iff.mp effect
    obtain ⟨low, rfl⟩ := takeLine?_eq_some.mp taken
    exact ⟨running, _, .hostByteReceived line low, rfl⟩
  | gapTimerExpiry =>
    rw [exec_gapTimerExpiry] at next
    refine (State.event_cases next).imp_right ?_
    rintro ⟨running, u, effect, rfl⟩
    split at effect
    next inFrame =>
      obtain rfl := Option.some.inj effect
      exact ⟨running, _, .gapTimerExpiry inFrame, rfl⟩
    next => cases effect
  | hostFrameSent =>
    rw [exec_hostFrameSent] at next
    refine (State.event_cases next).imp_right ?_
    rintro ⟨running, u, effect, rfl⟩
    obtain ⟨f, sending, rfl⟩ := Option.map_eq_some_iff.mp effect
    exact ⟨running, _, .hostFrameSent f sending, rfl⟩
  | presenceRise n =>
    rw [exec_presenceRise] at next
    refine (State.slotEvent_cases next).imp_right ?_
    rintro ⟨running, k, number, u, effect, rfl⟩
    obtain rfl := slotNo?_eq_some.mp number
    split at effect
    next state =>
      obtain rfl := Option.some.inj effect
      exact ⟨running, _, .presenceRise k state, rfl⟩
    next => cases effect
  | presenceLoss n =>
    rw [exec_presenceLoss] at next
    refine (State.slotEvent_cases next).imp_right ?_
    rintro ⟨running, k, number, u, effect, rfl⟩
    obtain rfl := slotNo?_eq_some.mp number
    split at effect
    next => cases effect
    next state =>
      obtain rfl := Option.some.inj effect
      exact ⟨running, _, .presenceLoss k state, rfl⟩
  | settlePeriodExpiry n =>
    rw [exec_settlePeriodExpiry] at next
    refine (State.slotEvent_cases next).imp_right ?_
    rintro ⟨running, k, number, u, effect, rfl⟩
    obtain rfl := slotNo?_eq_some.mp number
    split at effect
    next state =>
      obtain rfl := Option.some.inj effect
      exact ⟨running, _, .settlePeriodExpiry k state, rfl⟩
    next => cases effect
  | laneByteReceived n line =>
    rw [exec_laneByteReceived] at next
    refine (State.slotEvent_cases next).imp_right ?_
    rintro ⟨running, k, number, u, effect, rfl⟩
    obtain rfl := slotNo?_eq_some.mp number
    obtain ⟨b, taken, rfl⟩ := Option.map_eq_some_iff.mp effect
    obtain ⟨low, rfl⟩ := takeLine?_eq_some.mp taken
    exact ⟨running, _, .laneByteReceived k line low, rfl⟩
  | laneSilenceTimeout n =>
    rw [exec_laneSilenceTimeout] at next
    refine (State.slotEvent_cases next).imp_right ?_
    rintro ⟨running, k, number, u, effect, rfl⟩
    obtain rfl := slotNo?_eq_some.mp number
    split at effect
    next => cases effect
    next received inside =>
      obtain rfl := Option.some.inj effect
      exact ⟨running, _, .laneSilenceTimeout k received inside, rfl⟩
  | replyTimeExpiry n =>
    rw [exec_replyTimeExpiry] at next
    refine (State.slotEvent_cases next).imp_right ?_
    rintro ⟨running, k, number, u, effect, rfl⟩
    obtain rfl := slotNo?_eq_some.mp number
    split at effect
    next x exchange =>
      split at effect
      next timer =>
        obtain rfl := Option.some.inj effect
        exact ⟨running, _, .replyTimeExpiry k x exchange timer, rfl⟩
      next => cases effect
    next => cases effect
  | laneFrameSent n =>
    rw [exec_laneFrameSent] at next
    refine (State.slotEvent_cases next).imp_right ?_
    rintro ⟨running, k, number, u, effect, rfl⟩
    obtain rfl := slotNo?_eq_some.mp number
    obtain ⟨f, sending, rfl⟩ := Option.map_eq_some_iff.mp effect
    exact ⟨running, _, .laneFrameSent k f sending, rfl⟩
  | unknownRequest => exact absurd rfl (none_event .unknown)
  | queryPart => exact absurd rfl (none_event .queryPart)
  | setParameters => exact absurd rfl (none_event (.setParameters ⟨0, 0, 0, 0, 0, 0, 0, 0⟩))
  | readParameters => exact absurd rfl (none_event .readParameters)
  | restart => exact absurd rfl (none_event (.restart 0))
  | defineClass => exact absurd rfl (none_event (.defineClass ⟨0, 0, 0, 0, 0, 0, 0, 0⟩))
  | dropClass => exact absurd rfl (none_event (.dropClass 0))
  | readClass => exact absurd rfl (none_event (.readClass 0))
  | readPlacement => exact absurd rfl (none_event (.readPlacement 0))
  | readDraft => exact absurd rfl (none_event (.readDraft 0))
  | commitPlacement => exact absurd rfl (none_event (.commitPlacement 0))
  | readSlot => exact absurd rfl (none_event (.readSlot 0))
  | resetSlot => exact absurd rfl (none_event (.resetSlot 0))
  | releaseSlot => exact absurd rfl (none_event (.releaseSlot 0))
  | accessRead => exact absurd rfl (none_event (.accessRead 0 0 0))
  | accessWrite => exact absurd rfl (none_event (.accessWrite 0 0 0 []))
  | cancelAccess => exact absurd rfl (none_event (.cancelAccess 0))
  | acknowledgeNotices => exact absurd rfl (none_event (.acknowledgeNotices 0))
  | resendNotices => exact absurd rfl (none_event (.resendNotices 0))
  | setEventEnable => exact absurd rfl (none_event (.setEventEnable 0 0 0))
  | readCounters => exact absurd rfl (none_event (.readCounters 0 0 0))

/-! ## What any command can do -/

/-- The part at the end of a power-on reset (R81, R142, R165). -/
def State.started (s : State) (rate1 rate0 : Bool) (presence : BitVec 16) : State :=
  { s with
    held := false
    hli := { s.hli with rate1 := rate1, rate0 := rate0 }
    slots := Vector.ofFn fun k : Fin 16 =>
      if presence.getLsbD k.val then (s.slot k).beginSettling s.params.settleTime else s.slot k }

theorem exec_resetEnd_of_held {s : State} (held : s.held = true) (rate1 rate0 : Bool) (presence : BitVec 16) :
    exec (.resetEnd rate1 rate0 presence) s = .next (s.started rate1 rate0 presence) := if_pos held

theorem exec_resetEnd_of_running {s : State} (running : s.held = false) (rate1 rate0 : Bool) (presence : BitVec 16) :
    exec (.resetEnd rate1 rate0 presence) s = .next s := if_neg (by simp [running])

/-- Every command does one of five things: nothing, a power-on reset, the end of one, the serving of the request on
offer, or an event of the part. -/
theorem exec_cases {c : Instr} {s t : State} (next : exec c s = .next t) :
    t = s ∨ (c = .powerOnReset ∧ t = State.powerOn s.pending) ∨
    (∃ rate1 rate0 presence, c = .resetEnd rate1 rate0 presence ∧ s.held = true ∧
      t = s.started rate1 rate0 presence) ∨
    (∃ r, s.Offers r ∧ c = (decodeRequest r).command ∧ t = (s.dropHead.serve r (decodeRequest r)).transmit) ∨
    (s.held = false ∧ ∃ u, s.Happens c u ∧ t = u.transmit) := by
  by_cases takes : takesRequest c
  · by_cases idle : ∀ r, s.Offers r → (decodeRequest r).command ≠ c
    · rw [exec_of_no_offer takes idle] at next
      exact .inl (by injection next with same; exact same.symm)
    · push Not at idle
      obtain ⟨r, offer, rfl⟩ := idle
      rw [offer.exec_command rfl] at next
      exact .inr (.inr (.inr (.inl ⟨r, offer, rfl, by injection next with same; exact same.symm⟩)))
  · by_cases reset : c = .powerOnReset
    · subst reset
      injection next with same
      exact .inr (.inl ⟨rfl, same.symm⟩)
    · by_cases resetEnd : ∃ a b p, c = .resetEnd a b p
      · obtain ⟨a, b, p, rfl⟩ := resetEnd
        cases held : s.held with
        | true =>
          rw [exec_resetEnd_of_held held] at next
          exact .inr (.inr (.inl ⟨a, b, p, rfl, rfl, by injection next with same; exact same.symm⟩))
        | false =>
          rw [exec_resetEnd_of_running held] at next
          exact .inl (by injection next with same; exact same.symm)
      · push Not at resetEnd
        exact (exec_event_cases next reset resetEnd takes).imp_right fun h => .inr (.inr (.inr h))

/-- A step runs the command at the front of the queue, or idles on an empty one (log 14). -/
theorem step_cases {s t : State} (next : step s = .next t) :
    (s.pending = [] ∧ t = s) ∨ ∃ c rest, s.pending = c :: rest ∧ exec c { s with pending := rest } = .next t := by
  unfold step at next
  split at next
  next empty => exact .inl ⟨empty, by injection next with same; exact same.symm⟩
  next c rest front => exact .inr ⟨c, rest, front, next⟩

/-- Settles O1: by the recursion of `step` on the queue of commands. -/
theorem stepRunsFrontCommand : Obligations.StepRunsFrontCommand := by
  unfold Obligations.StepRunsFrontCommand
  intro c rest s front
  simp only [step, front]

end Sys2Proof.Machine
end

section
/-! SUPPORT. What the operations inside a step can do to the part, as a chain of single changes. An invariant that each
single change keeps is kept by every operation, so each operation is gone through here once. -/

namespace Sys2Proof.Machine

-- One proof at a time: many side by side take a thread and its stack each.
set_option Elab.async false

/-! ## The single changes -/

/-- The join count and the lane counters of a Slot Controller lie in their ranges (R59, R103). -/
structure Slot.Bounded (sl : Slot) : Prop where
  joinCount : sl.joinCount ≤ 65535
  counters : ∀ n ∈ sl.lane.counters.toList, n ≤ 4294967295

/-- The reply that ends a transaction and the owner its blocks get fit together: a reply that lists the blocks owns them,
any other lists none and frees them (R107, R115). -/
def Transaction.EndsWith (t : Transaction) (owner : BlockOwner) (fields : ReplyFields) : Prop :=
  (owner = .free ∧ ∀ code tag status, (Reply.mk code tag status fields).blocks = []) ∨
    (owner = .reply ∧ fields = .data t.generation t.count t.blocks)

/-- The changes that the operations on slots, lanes and transactions are made of. -/
inductive State.Works : State → State → Prop
  | refl (s : State) : s.Works s
  | trans {s t u : State} (first : s.Works t) (second : t.Works u) : s.Works u
  | slot (s : State) (k : SlotNo) (f : Slot → Slot) (bounded : (s.slot k).Bounded → (f (s.slot k)).Bounded) :
    s.Works (s.modSlot k f)
  | layout (s : State) (placement : List Entry) (stamp : Nat)
    (next : stamp = s.pe.stamp ∨ stamp = nextStamp s.pe.stamp) :
    s.Works { s with pe := { s.pe with placement := placement, stamp := stamp } }
  | commit (s : State) (policy : s.params.joinPolicy = .autoCommit) : s.Works (s.commit .automatic)
  | post (s : State) (kind : NoticeKind) (system : kind.isEvent = false) : s.Works (s.post kind)
  | event (s : State) (kind : NoticeKind) (room : s.au.admitsEvent = true) : s.Works { s with au := s.au.append kind }
  | ending (s : State) (t : Transaction) (owner : BlockOwner) (status : Status) (fields : ReplyFields)
    (present : t ∈ s.transactions) (fits : t.EndsWith owner fields) :
    s.Works (s.endTransaction t owner status fields)
  | endTenure (s : State) (k : SlotNo) (status : Status) : s.Works (s.endTenure k status)
  | mark (s : State) (tag : Byte) (st : TransactionState) : s.Works (s.setTransactionState tag st)
  | store (s : State) (blocks : List BlockNo) (ws : List Word) : s.Works { s with pool := s.pool.store blocks ws }

namespace State.Works

theorem bumpStamp (s : State) : s.Works s.bumpStamp := .layout s s.pe.placement _ (.inr rfl)

/-- A change of a Slot Controller that keeps its join count and its lane counters. -/
theorem modSlot (s : State) (k : SlotNo) (f : Slot → Slot)
    (joins : (f (s.slot k)).joinCount = (s.slot k).joinCount := by rfl)
    (counters : (f (s.slot k)).lane.counters = (s.slot k).lane.counters := by rfl) : s.Works (s.modSlot k f) :=
  .slot s k f fun h => ⟨by rw [joins]; exact h.joinCount, by rw [counters]; exact h.counters⟩

theorem modLane (s : State) (k : SlotNo) (f : Lane → Lane)
    (counters : (f (s.slot k).lane).counters = (s.slot k).lane.counters := by rfl) : s.Works (s.modLane k f) :=
  modSlot s k _ rfl counters

theorem countLane (s : State) (k : SlotNo) (f : LaneCounters → LaneCounters)
    (bounded : (∀ n ∈ (s.slot k).lane.counters.toList, n ≤ 4294967295) →
      ∀ n ∈ (f (s.slot k).lane.counters).toList, n ≤ 4294967295) : s.Works (s.countLane k f) :=
  .slot s k (fun sl => { sl with lane := { sl.lane with counters := f sl.lane.counters } }) fun h =>
    ⟨h.joinCount, bounded h.counters⟩

end State.Works

/-! ## Counters (R103) -/

theorem bump_le (n : Nat) : bump n ≤ 4294967295 := by
  unfold bump Config.counterMax
  split <;> omega

/-- A count on one lane counter is bounded when the others are. -/
theorem LaneCounters.bounded_of_forall {c d : LaneCounters}
    (each : ∀ n ∈ d.toList, n ∈ c.toList ∨ ∃ m, n = bump m) (h : ∀ n ∈ c.toList, n ≤ 4294967295) :
    ∀ n ∈ d.toList, n ≤ 4294967295 := by
  intro n hn
  rcases each n hn with old | ⟨m, rfl⟩
  · exact h n old
  · exact bump_le m

/-! ## What the lane's own operations keep -/

@[simp] theorem Lane.dropExchange_counters (l : Lane) : l.dropExchange.counters = l.counters := rfl
@[simp] theorem Lane.endUnmatched_counters (l : Lane) : l.endUnmatched.counters = l.counters := rfl
@[simp] theorem Lane.endMatched_counters (l : Lane) (kind : ExchangeKind) :
    (l.endMatched kind).counters = l.counters := by
  unfold Lane.endMatched
  split <;> rfl
@[simp] theorem Lane.abandon_counters (l : Lane) : l.abandon.counters = l.counters := by
  unfold Lane.abandon
  dsimp only
  split <;> rfl
@[simp] theorem Lane.dropExchange_exchange (l : Lane) : l.dropExchange.exchange = none := rfl
@[simp] theorem Lane.endUnmatched_exchange (l : Lane) : l.endUnmatched.exchange = none := rfl
@[simp] theorem Lane.endMatched_exchange (l : Lane) (kind : ExchangeKind) : (l.endMatched kind).exchange = none := by
  unfold Lane.endMatched
  split <;> rfl
@[simp] theorem Lane.abandon_exchange (l : Lane) : l.abandon.exchange = none := by
  unfold Lane.abandon
  dsimp only
  split
  · rfl
  · simpa using ‹¬l.exchange.isSome = true›
@[simp] theorem Lane.abandon_resyncRequired (l : Lane) : l.abandon.resyncRequired = false := rfl
@[simp] theorem Lane.endUnmatched_resyncRequired (l : Lane) : l.endUnmatched.resyncRequired = l.resyncRequired := rfl
@[simp] theorem Lane.endMatched_resyncRequired (l : Lane) (kind : ExchangeKind) :
    (l.endMatched kind).resyncRequired = l.resyncRequired := by
  unfold Lane.endMatched
  split <;> rfl

/-! ## The operations of slots and of the layout -/

namespace State

theorem leave_works (s : State) (k : SlotNo) (st : SlotState) : s.Works (s.leave k st) := by
  rw [State.leave_eq]
  refine (Works.layout s _ _ ?_).trans (Works.modSlot _ k _)
  split
  · exact .inr rfl
  · exact .inl rfl

theorem enterFailed_works (s : State) (k : SlotNo) (reason : FailReason) : s.Works (s.enterFailed k reason) := by
  have rest (u : State) : u.Works (((u.modLane k Lane.abandon).leave k (.failed reason)).post (.slotFailed k reason)) :=
    ((Works.modLane u k _ (Lane.abandon_counters _)).trans (leave_works _ k _)).trans (.post _ _ rfl)
  unfold enterFailed
  dsimp only
  split
  · exact (Works.endTenure s k _).trans (rest _)
  · exact rest s

theorem countFailure_works (s : State) (k : SlotNo) : s.Works (s.countFailure k) := by
  have count := Works.modSlot s k fun sl => { sl with failures := sl.failures + 1 }
  unfold countFailure
  dsimp only
  split
  · exact count.trans (Works.modLane _ k _)
  · exact count.trans (enterFailed_works _ k _)

theorem awaitCommit_works (s : State) (k : SlotNo) : s.Works (s.awaitCommit k) :=
  (Works.post s _ rfl).trans (.post _ _ rfl)

/-- The join procedure (R42 to R46). -/
theorem join_works (s : State) (k : SlotNo) : s.Works (s.join k) := by
  have enter := (Works.modSlot s k fun sl => sl.enter (.pending .awaitingCommit)).trans (Works.bumpStamp _)
  unfold join
  dsimp only
  split
  · exact enter.trans (((Works.layout _ _ _ (.inl rfl)).trans (Works.modSlot _ k _)).trans (.post _ _ rfl))
  · split
    · exact enter.trans (awaitCommit_works _ k)
    next policy =>
      split
      · exact enter.trans ((Works.commit _ policy).trans (.post _ _ rfl))
      · exact enter.trans (awaitCommit_works _ k)

theorem judge_works (s : State) (k : SlotNo) (id : Identity) : s.Works (s.judge k id) := by
  unfold judge
  split
  · exact Works.modSlot s k _
  · split
    · exact enterFailed_works s k _
    · exact join_works s k

theorem nextJoinCount_le {n : Nat} (h : n ≤ 65535) : nextJoinCount n ≤ 65535 := by
  unfold nextJoinCount Config.max16
  split <;> omega

theorem newJoin_works (s : State) (k : SlotNo) (id : Identity) : s.Works (s.newJoin k id) :=
  (Works.slot s k _ fun h => ⟨nextJoinCount_le h.joinCount, h.counters⟩).trans (judge_works _ k id)

theorem resyncIdent_works (s : State) (k : SlotNo) (id : Identity) : s.Works (s.resyncIdent k id) := by
  unfold resyncIdent
  split
  · exact Works.modSlot s k _
  · exact (((Works.endTenure s k _).trans (leave_works _ k _)).trans (.post _ _ rfl)).trans (newJoin_works _ k id)

theorem endRelease_works (s : State) (k : SlotNo) (outcome : ReleaseOutcome) : s.Works (s.endRelease k outcome) :=
  (leave_works s k _).trans (.post _ _ rfl)

theorem losePresence_works (s : State) (k : SlotNo) : s.Works (s.losePresence k) :=
  ((((Works.endTenure s k _).trans (Works.modLane _ k Lane.quiesce)).trans (leave_works _ k _)).trans
    (.post _ _ rfl)).trans
      (Works.modSlot _ k fun sl => { sl with presence := false, settle := none, identity := none, failures := 0 })

theorem rejudge_works (s : State) (k : SlotNo) : s.Works (s.rejudge k) := by
  unfold rejudge
  split
  · exact judge_works s k _
  · exact .refl s

theorem foldl_rejudge_works (ks : List SlotNo) (s : State) : s.Works (ks.foldl rejudge s) := by
  induction ks generalizing s with
  | nil => exact .refl s
  | cons k ks ih => exact (rejudge_works s k).trans (ih _)

/-! ## The lane engine -/

theorem laneTransmit_works (s : State) (k : SlotNo) : s.Works (s.laneTransmit k) := by
  unfold laneTransmit
  dsimp only
  split
  · exact .refl s
  · exact Works.modLane s k _
  · split
    · exact Works.modLane s k _
    · exact .refl s
  · exact .refl s

theorem exchangeBegun_works (s : State) (k : SlotNo) (kind : ExchangeKind) : s.Works (s.exchangeBegun k kind) := by
  unfold exchangeBegun
  split
  · exact .refl s
  · exact Works.countLane s k _ (LaneCounters.bounded_of_forall (by simp [LaneCounters.toList]))
  · exact .mark s _ _
  · exact .mark s _ _
  · exact Works.modSlot s k _

theorem advance_works (s : State) (k : SlotNo) : s.Works (s.advance k) := by
  unfold advance
  dsimp only
  refine Works.trans ?_ (laneTransmit_works _ k)
  split
  · exact .refl s
  · split
    · exact (Works.modLane s k _).trans (exchangeBegun_works _ k _)
    · exact .refl s

theorem enterProbing_works (s : State) (k : SlotNo) : s.Works (s.enterProbing k) :=
  (((Works.modLane s k _ (Lane.abandon_counters _)).trans (leave_works _ k _)).trans (Works.modSlot _ k _)).trans
    (advance_works _ k)

theorem countUngood_works (s : State) (k : SlotNo) : s.Works (s.countUngood k) := by
  refine Works.countLane s k _ (LaneCounters.bounded_of_forall ?_)
  split <;> simp [LaneCounters.toList]

theorem setLaneReceiver_works (s : State) (k : SlotNo) (r : LaneReceiver) : s.Works (s.setLaneReceiver k r) :=
  Works.modLane s k _

theorem frameSent_works (s : State) (k : SlotNo) (f : LaneSending) : s.Works (s.modLane k fun l => l.frameSent f) := by
  refine .slot s k _ fun h => ⟨h.joinCount, ?_⟩
  have counters : ((s.slot k).lane.frameSent f).counters =
      { (s.slot k).lane.counters with sentFrames := bump (s.slot k).lane.counters.sentFrames } := by
    unfold Lane.frameSent
    dsimp only
    split <;> rfl
  dsimp only
  rw [counters]
  exact LaneCounters.bounded_of_forall (by simp [LaneCounters.toList]) h.counters

/-! ## The ends of exchanges -/

theorem mem_of_transaction? {s : State} {tag : Byte} {t : Transaction} (h : s.transaction? tag = some t) :
    t ∈ s.transactions := List.mem_of_find?_eq_some h

theorem tag_of_transaction? {s : State} {tag : Byte} {t : Transaction} (h : s.transaction? tag = some t) :
    t.tag = tag := by simpa using List.find?_some h

theorem endWithout_works {s : State} {t : Transaction} (present : t ∈ s.transactions) (status : Status) :
    s.Works (s.endWithout t status) := .ending s t _ _ _ present (.inl ⟨rfl, fun _ _ _ => rfl⟩)

theorem endCancelled_works {s : State} {t : Transaction} (present : t ∈ s.transactions) (outcome : CancelOutcome) :
    s.Works (s.endCancelled t outcome) := .ending s t _ _ _ present (.inl ⟨rfl, fun _ _ _ => rfl⟩)

theorem withTransaction_works (s : State) (tag : Byte) (f : State → Transaction → State)
    (each : ∀ t ∈ s.transactions, s.Works (f s t)) : s.Works (s.withTransaction tag f) := by
  unfold withTransaction
  split
  next found => exact each _ (mem_of_transaction? found)
  next => exact .refl s

theorem failAccess_works (s : State) (k : SlotNo) (tag : Byte) (status : Status) : s.Works (s.failAccess k tag status) :=
  (withTransaction_works s tag _ fun _ present => endWithout_works present status).trans (countFailure_works _ k)

theorem failExchange_works (s : State) (k : SlotNo) (x : Exchange) (status : Status) :
    s.Works (s.failExchange k x status) := by
  have freed := Works.modLane s k Lane.endUnmatched
  unfold failExchange
  dsimp only
  split
  · exact freed.trans (enterFailed_works _ k _)
  · exact freed.trans (countFailure_works _ k)
  · exact freed.trans (failAccess_works _ k _ _)
  · exact freed.trans (failAccess_works _ k _ _)
  · split
    · exact freed.trans (Works.modLane _ k _)
    · exact freed.trans (endRelease_works _ k _)

theorem endCancelledExchange_works (s : State) (k : SlotNo) (x : Exchange) : s.Works (s.endCancelledExchange k x) := by
  unfold endCancelledExchange
  dsimp only
  split
  · exact (Works.modLane s k _).trans (withTransaction_works _ _ _ fun _ present => endCancelled_works present _)
  · exact Works.modLane s k _

theorem expireCancelled_works (s : State) (k : SlotNo) (x : Exchange) : s.Works (s.expireCancelled k x) :=
  (Works.countLane s k _ (LaneCounters.bounded_of_forall (by simp [LaneCounters.toList]))).trans
    (endCancelledExchange_works _ k x)

theorem completeTransaction_works {s : State} {t : Transaction} (present : t ∈ s.transactions) (f : LaneFrame) :
    s.Works (s.completeTransaction t f) := by
  unfold completeTransaction
  split
  · exact .ending s t _ _ _ present (.inl ⟨rfl, fun _ _ _ => rfl⟩)
  · split
    · exact (Works.store s t.blocks f.payload).trans (.ending _ t _ _ _ present (.inr ⟨rfl, rfl⟩))
    · exact endWithout_works present _

theorem endAccess_works (s : State) (x : Exchange) (tag : Byte) (f : LaneFrame) : s.Works (s.endAccess x tag f) := by
  refine withTransaction_works s tag _ fun t present => ?_
  split
  · exact endCancelled_works present _
  · exact completeTransaction_works present f

theorem matchedAnswer_works (s : State) (k : SlotNo) (x : Exchange) (f : LaneFrame) :
    s.Works (s.matchedAnswer k x f) := by
  have freed := Works.modSlot s k (fun sl => { sl with failures := 0, lane := sl.lane.endMatched x.kind }) rfl
    (Lane.endMatched_counters _ _)
  unfold matchedAnswer
  dsimp only
  split
  · exact freed.trans (newJoin_works _ k _)
  · exact (freed.trans (Works.modLane _ k _)).trans (resyncIdent_works _ k _)
  · exact freed.trans (endAccess_works _ _ _ _)
  · exact freed.trans (endAccess_works _ _ _ _)
  · split
    · exact freed.trans (Works.modLane _ k _)
    · exact freed.trans (endRelease_works _ k _)

theorem judgeAnswer_works (s : State) (k : SlotNo) (f : LaneFrame) : s.Works (s.judgeAnswer k f) := by
  have stale : s.Works (s.countLane k fun c => { c with staleAnswers := bump c.staleAnswers }) :=
    Works.countLane s k _ (LaneCounters.bounded_of_forall (by simp [LaneCounters.toList]))
  have wrong : s.Works (s.countLane k fun c => { c with protocolErrors := bump c.protocolErrors }) :=
    Works.countLane s k _ (LaneCounters.bounded_of_forall (by simp [LaneCounters.toList]))
  unfold judgeAnswer
  dsimp only
  split
  · exact stale
  · split
    · exact stale
    · split
      · exact stale
      · split
        · exact matchedAnswer_works s k _ f
        · unfold wrongAnswer
          dsimp only
          split
          · exact wrong.trans (expireCancelled_works _ k _)
          · exact wrong.trans (failExchange_works _ k _ _)

theorem replyExpired_works (s : State) (k : SlotNo) (x : Exchange) : s.Works (s.replyExpired k x) := by
  unfold replyExpired
  split
  · exact expireCancelled_works s k x
  · split
    · exact .slot s k _ fun h =>
        ⟨h.joinCount, LaneCounters.bounded_of_forall (by simp [LaneCounters.toList]) h.counters⟩
    · exact (Works.countLane s k _ (LaneCounters.bounded_of_forall (by simp [LaneCounters.toList]))).trans
        (failExchange_works _ k x _)

theorem cancelExchange_works (s : State) (k : SlotNo) : s.Works (s.cancelExchange k) := by
  have marked := Works.modLane s k Lane.cancel
  unfold cancelExchange
  dsimp only
  split
  · split
    · exact (marked.trans (expireCancelled_works _ k _)).trans (advance_works _ k)
    · exact marked
  · exact marked

/-! ## Module events (R97 to R100, R129) -/

theorem ackEvent_works (s : State) (k : SlotNo) (phase : Bool) (count : LaneCounters → LaneCounters)
    (bounded : ∀ c : LaneCounters, (∀ n ∈ c.toList, n ≤ 4294967295) → ∀ n ∈ (count c).toList, n ≤ 4294967295) :
    s.Works (s.ackEvent k phase count) :=
  (Works.modLane s k _).trans (Works.countLane _ k _ (bounded _))

theorem waitEvent_works (s : State) (k : SlotNo) (phase : Bool) : s.Works (s.waitEvent k phase) :=
  (Works.modLane s k _).trans (Works.countLane _ k _ (LaneCounters.bounded_of_forall (by simp [LaneCounters.toList])))

theorem newEvent_works (s : State) (k : SlotNo) (f : LaneFrame) : s.Works (s.newEvent k f) := by
  have bad : s.Works (s.ackEvent k f.phase fun c => { c with badEvents := bump c.badEvents }) :=
    ackEvent_works s k _ _ fun c => LaneCounters.bounded_of_forall (by simp [LaneCounters.toList])
  unfold newEvent
  dsimp only
  split
  · exact bad
  · split
    · exact bad
    · split
      · exact ackEvent_works s k _ _ fun c => LaneCounters.bounded_of_forall (by simp [LaneCounters.toList])
      · split
        next room =>
          exact (Works.event s _ room).trans
            (ackEvent_works _ k _ _ fun c => LaneCounters.bounded_of_forall (by simp [LaneCounters.toList]))
        next => exact waitEvent_works s k _

theorem judgeEvent_works (s : State) (k : SlotNo) (f : LaneFrame) : s.Works (s.judgeEvent k f) := by
  unfold judgeEvent
  dsimp only
  split
  · exact Works.countLane s k _ (LaneCounters.bounded_of_forall (by simp [LaneCounters.toList]))
  · split
    · exact waitEvent_works s k _
    · exact waitEvent_works s k _
    · split
      · exact ackEvent_works s k _ _ fun c => LaneCounters.bounded_of_forall (by simp [LaneCounters.toList])
      · exact newEvent_works s k f

theorem judgeFrame_works (s : State) (k : SlotNo) (received : List Byte) : s.Works (s.judgeFrame k received) := by
  unfold judgeFrame
  split
  · exact countUngood_works s k
  · split
    · exact countUngood_works s k
    · dsimp only
      have count : s.Works (s.countLane k fun c => { c with receivedFrames := bump c.receivedFrames }) :=
        Works.countLane s k _ (LaneCounters.bounded_of_forall (by simp [LaneCounters.toList]))
      split
      · exact count.trans (judgeEvent_works _ k _)
      · exact count.trans (judgeAnswer_works _ k _)

theorem takeLaneByte_works (s : State) (k : SlotNo) (b : Byte) : s.Works (s.takeLaneByte k b) := by
  unfold takeLaneByte
  split
  · exact .refl s
  · exact setLaneReceiver_works s k _
  · exact (setLaneReceiver_works s k _).trans (countUngood_works _ k)
  · exact ((setLaneReceiver_works s k _).trans (judgeFrame_works _ k _)).trans (advance_works _ k)

end State

/-! ## What the operations keep -/

/-- The operations of slots, lanes and transactions keep the catalogue and, of the Host Link, all but the replies. -/
structure State.KeepsLink (s t : State) : Prop where
  catalogue : t.pe.catalogue = s.pe.catalogue
  hli : t.hli = { s.hli with replies := t.hli.replies }

theorem State.Works.fixed {s t : State} (works : s.Works t) : s.KeepsFixed t := by
  induction works with
  | refl s => exact .refl s
  | trans _ _ first second => exact first.trans second
  | slot s k f _ => exact s.modSlot_keepsFixed k f
  | layout => exact ⟨rfl, rfl, rfl, rfl⟩
  | commit s _ => exact (s.commit_keepsTraffic _).fixed
  | post s kind _ => exact (s.post_keepsTraffic kind).fixed
  | event => exact ⟨rfl, rfl, rfl, rfl⟩
  | ending => exact ⟨rfl, rfl, rfl, rfl⟩
  | endTenure s k status => exact s.endTenure_keepsFixed k status
  | mark => exact ⟨rfl, rfl, rfl, rfl⟩
  | store => exact ⟨rfl, rfl, rfl, rfl⟩

theorem State.Works.link {s t : State} (works : s.Works t) : s.KeepsLink t := by
  induction works with
  | trans _ _ first second =>
    exact ⟨second.catalogue.trans first.catalogue, by rw [second.hli, first.hli]⟩
  | commit s _ => exact ⟨State.commit_catalogue s _, by rw [State.commit_hli]⟩
  | endTenure s k status => exact ⟨by rw [State.endTenure_pe], (s.endTenure_spec k status).hli ▸ rfl⟩
  | _ => exact ⟨rfl, rfl⟩

end Sys2Proof.Machine
end

section
/-! SUPPORT. What the serving of a request can do, and the proofs that every step keeps the Attention Unit and the Class
Catalogue consistent. -/

namespace Sys2Proof.Machine

-- One proof at a time: many side by side take a thread and its stack each.
set_option Elab.async false

/-! ## What the serving of a request can do -/

/-- The replies that list no blocks: all but the data of a read (R120). -/
def ReplyFields.NoBlocks (fields : ReplyFields) : Prop :=
  ∀ code tag status, (Reply.mk code tag status fields).blocks = []

/-- The outcomes of the serving of a request, on the state its head has left. -/
inductive State.Serves (s : State) (r : HostRequest) : Request → State → Prop
  | answered (q : Request) (status : Status) (fields : ReplyFields) (noBlocks : fields.NoBlocks) :
    s.Serves r q (s.answer r status fields)
  | params (f : ParamFields) (p : Params) (passed : f.check = some p) :
    s.Serves r (.setParameters f) ((s.setParams p).answer r .ok (.stamp (s.setParams p).pe.stamp))
  | restarted (n : Nat) (scope : RestartScope) : s.Serves r (.restart n) (s.serveRestart r scope)
  | redefined (f : ClassFields) (c : ClassEntry) (valid : f.check = some c) (passed : s.refuseDefine c = none)
    (known : ∃ d ∈ s.pe.catalogue, d.code = c.code) :
    s.Serves r (.defineClass f)
      ((s.redefineClass c).answer r .ok (.defined .redefined 0 (s.redefineClass c).pe.stamp))
  | created (f : ClassFields) (c : ClassEntry) (valid : f.check = some c) (passed : s.refuseDefine c = none)
    (new : ¬∃ d ∈ s.pe.catalogue, d.code = c.code) :
    s.Serves r (.defineClass f)
      ((s.addClass c).answer r .ok (.defined .created (s.waitingFor c.code).length (s.addClass c).pe.stamp))
  | dropped (code : Nat) (unused : ¬s.Carried code) :
    s.Serves r (.dropClass code) ((s.dropClass code).answer r .ok (.stamp (s.dropClass code).pe.stamp))
  | committed (stamp : Nat) :
    s.Serves r (.commitPlacement stamp) ((s.commit .requested).answer r .ok
      (.committed (s.commit .requested).pe.generation (s.commit .requested).pe.stamp s.draftInputs.fittedCount
        s.draftInputs.unfitCount))
  | acknowledged (q p : Nat) (queued : s.au.position? q = some p) :
    s.Serves r (.acknowledgeNotices q)
      ((State.forgetNotice { s with au := s.au.acknowledge p } fun x =>
          (s.au.queue.take (p + 1)).any fun n => n.seq == x).answer r .ok
        (.acknowledged (p + 1) (s.au.acknowledge p).queue.length))
  | resent (q p : Nat) (queued : s.au.position? q = some p) :
    s.Serves r (.resendNotices q)
      (State.answer { s with au := s.au.resend p } r .ok
        (.madeNew ((s.au.queue.drop p).filter fun n => n.delivery = .sent).length))
  | enabled (first count setting : Nat) :
    s.Serves r (.setEventEnable first count setting)
      (State.answer { s with au := { s.au with enabled := setFlags s.au.enabled first count (decide (setting = 1)) } }
        r .ok .none)
  | linkCleared (q : Request) :
    s.Serves r q (State.answer { s with hli := { s.hli with counters := {} } } r .ok (.linkCounters s.hli.counters))
  | laneCleared (q : Request) (k : SlotNo) :
    s.Serves r q ((s.countLane k fun _ => {}).answer r .ok (.laneCounters k (s.slot k).lane.counters))
  | probed (q : Request) (k : SlotNo) (judged : (s.slot k).state.unjudged = false) :
    s.Serves r q
      (((s.endTenure k .slotReset).enterProbing k).answer r .ok (.slotState (s.slot k).state))
  | released (q : Request) (k : SlotNo) (placed : (s.slot k).state = .placed) :
    s.Serves r q (((s.modSlot k fun sl => sl.enter (.draining false)).answer r .ok .none).advance k)
  | accepted (q : Request) (kind : AccessKind) (view address count offset : Nat) (k : SlotNo) (data : List Word)
    (range : 1 ≤ count ∧ count ≤ 32) (translated : s.translate view address count kind = .window k offset)
    (room : s.refuseAccess k count = none) :
    s.Serves r q (s.accept r.tag kind k offset count data)
  | withdrawn (q : Request) (t : Transaction) (present : t ∈ s.transactions) (waiting : t.state = .waiting) :
    s.Serves r q (((s.endCancelled t .notSent).answer r .ok (.foundState .waiting)).advance t.slot)
  | cancelled (q : Request) (t : Transaction) (present : t ∈ s.transactions) (exchanging : t.state = .inExchange) :
    s.Serves r q
      (((s.setTransactionState t.tag .cancelling).answer r .ok (.foundState .inExchange)).cancelExchange t.slot)

theorem noBlocks_of_ne_data {fields : ReplyFields} (h : ∀ g n blocks, fields ≠ .data g n blocks) :
    fields.NoBlocks := by
  intro code tag status
  unfold Reply.blocks
  split
  next g n blocks same => exact absurd same (h g n blocks)
  next => rfl

section
variable (s : State) (r : HostRequest)

/-- A reply that lists no blocks, by its layout. -/
theorem State.Serves.answer (q : Request) (status : Status) (fields : ReplyFields)
    (layout : ∀ g n blocks, fields ≠ .data g n blocks := by simp) : s.Serves r q (s.answer r status fields) :=
  .answered q status fields (noBlocks_of_ne_data layout)

theorem State.serveReadCounters_serves (q : Request) (selector lane clear : Nat) :
    s.Serves r q (s.serveReadCounters r selector lane clear) := by
  unfold State.serveReadCounters
  dsimp only
  split
  · exact .answer s r q _ _
  · split
    · split
      · exact .linkCleared q
      · exact .answer s r q _ _
    · split
      · split
        · split
          · exact .laneCleared q _
          · exact .answer s r q _ _
        · exact .answer s r q _ _
      · exact .answer s r q _ _

theorem State.serveDefine_serves {f : ClassFields} {c : ClassEntry} (valid : f.check = some c) :
    s.Serves r (.defineClass f) (s.serveDefine r c) := by
  cases passed : s.refuseDefine c with
  | some status =>
    rw [State.serveDefine_refused r passed]
    exact .answer s r _ _ _
  | none =>
    by_cases known : ∃ d ∈ s.pe.catalogue, d.code = c.code
    · rw [State.serveDefine_redefined r passed known]
      exact .redefined f c valid passed known
    · rw [State.serveDefine_created r passed known]
      exact .created f c valid passed known

theorem State.serveDrop_serves (code : Nat) : s.Serves r (.dropClass code) (s.serveDrop r code) := by
  unfold State.serveDrop
  split
  · exact .answer s r _ _ _
  · split
    · exact .answer s r _ _ _
    · split
      · exact .answer s r _ _ _
      next unused => exact .dropped code (by simpa [State.classInUse_iff] using unused)

theorem State.serveAccess_serves (q : Request) (kind : AccessKind) {view address count : Nat} (data : List Word)
    (range : 1 ≤ count ∧ count ≤ 32) : s.Serves r q (s.serveAccess r kind view address count data) := by
  unfold State.serveAccess
  split
  · exact .answer s r q _ _
  · exact .answer s r q _ _
  next k offset translated =>
    split
    · exact .answer s r q _ _
    next room => exact .accepted q kind view address count offset k data range translated room

theorem State.serveCancel_serves (q : Request) (target : Byte) : s.Serves r q (s.serveCancel r target) := by
  unfold State.serveCancel
  split
  · exact .answer s r q _ _
  next t found =>
    split
    next waiting => exact .withdrawn q t (State.mem_of_transaction? found) waiting
    next exchanging =>
      obtain rfl := State.tag_of_transaction? found
      exact .cancelled q t (State.mem_of_transaction? found) exchanging
    · exact .answer s r q _ _

/-- The serving of every request has one of the outcomes of `State.Serves`. -/
theorem State.serve_serves (q : Request) : s.Serves r q (s.serve r q) := by
  cases q with
  | setParameters f =>
    simp only [State.serve]
    split
    next p passed => exact .params f p passed
    next => exact .answer s r _ _ _
  | restart scope =>
    simp only [State.serve]
    split
    · exact .restarted _ _
    · split
      · exact .restarted _ _
      · exact .answer s r _ _ _
  | defineClass f =>
    simp only [State.serve]
    split
    next c valid => exact s.serveDefine_serves r valid
    next => exact .answer s r _ _ _
  | dropClass code => exact s.serveDrop_serves r code
  | readClass rank =>
    simp only [State.serve, State.serveReadClass]
    split
    · exact .answer s r _ _ _
    · split <;> exact .answer s r _ _ _
  | readPlacement start =>
    simp only [State.serve, State.serveReadPlacement]
    split <;> exact .answer s r _ _ _
  | readDraft start =>
    simp only [State.serve, State.serveReadDraft]
    split <;> exact .answer s r _ _ _
  | commitPlacement stamp =>
    simp only [State.serve, State.serveCommit]
    split
    · exact .committed stamp
    · exact .answer s r _ _ _
  | readSlot slot =>
    simp only [State.serve, State.serveReadSlot]
    split <;> exact .answer s r _ _ _
  | resetSlot slot =>
    simp only [State.serve, State.serveResetSlot]
    split
    · exact .answer s r _ _ _
    · split
      · exact .answer s r _ _ _
      next judged => exact .probed _ _ (by simpa using judged)
  | releaseSlot slot =>
    simp only [State.serve, State.serveReleaseSlot]
    split
    · exact .answer s r _ _ _
    · split
      next placed => exact .released _ _ placed
      next => exact .answer s r _ _ _
  | accessRead view address count =>
    simp only [State.serve, State.serveRead]
    split
    · exact .answer s r _ _ _
    next range => exact s.serveAccess_serves r _ .read [] (by unfold Config.maxLaneWords at range; omega)
  | accessWrite view address count data =>
    simp only [State.serve, State.serveWrite]
    split
    · exact .answer s r _ _ _
    next range =>
      split
      · exact .answer s r _ _ _
      · exact s.serveAccess_serves r _ .write data (by unfold Config.maxLaneWords at range; omega)
  | cancelAccess target => exact s.serveCancel_serves r _ target
  | acknowledgeNotices seq =>
    simp only [State.serve, State.serveAcknowledge]
    split
    · exact .answer s r _ _ _
    next p queued => exact .acknowledged seq p queued
  | resendNotices seq =>
    simp only [State.serve, State.serveResend]
    split
    · exact .answer s r _ _ _
    next p queued => exact .resent seq p queued
  | setEventEnable first count setting =>
    simp only [State.serve, State.serveEventEnable]
    split
    · exact .answer s r _ _ _
    · exact .enabled first count setting
  | readCounters selector lane clear => exact s.serveReadCounters_serves r _ selector lane clear
  | _ => exact .answer s r _ _ _

end

/-! ## The notices (R125 to R131) -/

theorem nextSequence_range {q : Nat} (h : 1 ≤ q ∧ q ≤ 65535) : 1 ≤ nextSequence q ∧ nextSequence q ≤ 65535 := by
  unfold nextSequence Config.max16
  split <;> omega

theorem consecutive_tail {n : Notice} {rest : List Notice} {next : Nat} (h : consecutive (n :: rest) next) :
    consecutive rest next := by
  cases rest with
  | nil => trivial
  | cons m rest => exact h.2

theorem consecutive_drop {queue : List Notice} {next : Nat} (h : consecutive queue next) (i : Nat) :
    consecutive (queue.drop i) next := by
  induction i generalizing queue with
  | zero => exact h
  | succ i ih =>
    cases queue with
    | nil => exact h
    | cons n rest => exact ih (consecutive_tail h)

theorem consecutive_append {queue : List Notice} {next : Nat} (h : consecutive queue next) (kind : NoticeKind)
    (delivery : Delivery) : consecutive (queue ++ [⟨next, kind, delivery⟩]) (nextSequence next) := by
  induction queue with
  | nil => rfl
  | cons n rest ih =>
    cases rest with
    | nil => exact ⟨h, rfl⟩
    | cons m rest => exact ⟨h.1, ih h.2⟩

/-- The numbering does not depend on the delivery states. -/
theorem consecutive_congr {queue queue' : List Notice} {next : Nat} (same : queue'.map Notice.seq = queue.map Notice.seq)
    (h : consecutive queue next) : consecutive queue' next := by
  induction queue generalizing queue' with
  | nil =>
    obtain rfl : queue' = [] := by simpa using same
    trivial
  | cons n rest ih =>
    cases queue' with
    | nil => cases same
    | cons n' rest' =>
      obtain ⟨head, tail⟩ := List.cons.inj same
      cases rest with
      | nil =>
        obtain rfl : rest' = [] := by simpa using tail
        exact h.trans (by rw [head])
      | cons m rest =>
        cases rest' with
        | nil => cases tail
        | cons m' rest' =>
          exact ⟨by rw [(List.cons.inj tail).1, head]; exact h.1, ih tail h.2⟩

theorem sentRun_cons {n : Notice} {rest : List Notice} :
    sentRun (n :: rest) ↔
      (n.delivery = .sent ∧ sentRun rest) ∨ (n.delivery = .fresh ∧ ∀ m ∈ rest, m.delivery = .fresh) := by
  cases h : n.delivery <;> simp [sentRun, h]

theorem sentRun_of_fresh {queue : List Notice} (h : ∀ n ∈ queue, n.delivery = .fresh) : sentRun queue :=
  fun n hn => h n ((List.dropWhile_sublist _).subset hn)

theorem sentRun_append_fresh {queue more : List Notice} (h : sentRun queue) (fresh : ∀ n ∈ more, n.delivery = .fresh) :
    sentRun (queue ++ more) := by
  induction queue with
  | nil => exact sentRun_of_fresh fresh
  | cons n rest ih =>
    rw [List.cons_append, sentRun_cons]
    rcases sentRun_cons.mp h with ⟨sent, run⟩ | ⟨new, all⟩
    · exact .inl ⟨sent, ih run⟩
    · refine .inr ⟨new, fun m hm => ?_⟩
      rcases List.mem_append.mp hm with old | added
      · exact all m old
      · exact fresh m added

theorem sentRun_tail {n : Notice} {rest : List Notice} (h : sentRun (n :: rest)) : sentRun rest := by
  rcases sentRun_cons.mp h with ⟨_, run⟩ | ⟨_, all⟩
  · exact run
  · exact sentRun_of_fresh all

theorem sentRun_drop {queue : List Notice} (h : sentRun queue) (i : Nat) : sentRun (queue.drop i) := by
  induction i generalizing queue with
  | zero => exact h
  | succ i ih =>
    cases queue with
    | nil => exact h
    | cons n rest => exact ih (sentRun_tail h)

theorem sentRun_take {queue : List Notice} (h : sentRun queue) (i : Nat) : sentRun (queue.take i) := by
  induction i generalizing queue with
  | zero => simp [sentRun]
  | succ i ih =>
    cases queue with
    | nil => exact h
    | cons n rest =>
      rw [List.take_succ_cons, sentRun_cons]
      rcases sentRun_cons.mp h with ⟨sent, run⟩ | ⟨new, all⟩
      · exact .inl ⟨sent, ih run⟩
      · exact .inr ⟨new, fun m hm => all m (List.mem_of_mem_take hm)⟩

theorem sentRun_markSent {queue : List Notice} (h : sentRun queue) (q : Nat) : sentRun (markSent q queue) := by
  induction queue with
  | nil => exact h
  | cons n rest ih =>
    unfold markSent
    split
    · exact sentRun_cons.mpr (.inl ⟨rfl, sentRun_tail h⟩)
    · split
      next sent => exact sentRun_cons.mpr (.inl ⟨sent, ih (sentRun_tail h)⟩)
      next => exact h

/-- Marking a notice SENT changes no number and no kind (R132). -/
theorem map_markSent {α : Type} (f : Notice → α) (hf : ∀ (n : Notice) (d : Delivery), f { n with delivery := d } = f n)
    (q : Nat) (queue : List Notice) : (markSent q queue).map f = queue.map f := by
  induction queue with
  | nil => rfl
  | cons n rest ih =>
    unfold markSent
    split
    · simp [hf]
    · split
      · simp [ih]
      · rfl

theorem AttentionUnit.eventCount_eq (au : AttentionUnit) :
    au.eventCount = (au.queue.map fun n => n.kind.isEvent).count true := by
  rw [AttentionUnit.eventCount, ← List.countP_eq_length_filter, List.count, List.countP_map]
  congr 1
  funext n
  simp

namespace AttentionUnit.Consistent

variable {au : AttentionUnit}

/-- A queue with the same numbers and kinds in the same order, and its SENT notices a run at the head (R125). -/
theorem redelivered (h : au.Consistent) {queue : List Notice} (seqs : queue.map Notice.seq = au.queue.map Notice.seq)
    (kinds : (queue.map fun n => n.kind.isEvent) = au.queue.map fun n => n.kind.isEvent) (run : sentRun queue) :
    AttentionUnit.Consistent { au with queue := queue } := by
  have length : queue.length = au.queue.length := by simpa using congrArg List.length seqs
  exact
    { length := by rw [length]; exact h.length
      events := by
        rw [AttentionUnit.eventCount_eq, kinds, ← AttentionUnit.eventCount_eq]
        exact h.events
      nextSeq := h.nextSeq
      numbers := fun n hn => by
        have mem : n.seq ∈ au.queue.map Notice.seq := seqs ▸ List.mem_map_of_mem hn
        obtain ⟨m, hm, same⟩ := List.mem_map.mp mem
        exact same ▸ h.numbers m hm
      numbering := consecutive_congr seqs h.numbering
      sent := run
      lost := h.lost
      summaryFull := fun due => by rw [length]; exact h.summaryFull due
      summaryClear := h.summaryClear }

theorem markSent (h : au.Consistent) (q : Nat) :
    AttentionUnit.Consistent { au with queue := Machine.markSent q au.queue } :=
  h.redelivered (map_markSent _ (fun _ _ => rfl) q _) (map_markSent _ (fun _ _ => rfl) q _) (sentRun_markSent h.sent q)

theorem resend (h : au.Consistent) (p : Nat) : (au.resend p).Consistent := by
  have same {α : Type} (f : Notice → α) (hf : ∀ n : Notice, f n.renew = f n) :
      (au.queue.take p ++ (au.queue.drop p).map Notice.renew).map f = au.queue.map f := by
    rw [List.map_append, List.map_map, show f ∘ Notice.renew = f from funext hf, ← List.map_append,
      List.take_append_drop]
  refine h.redelivered (same _ fun _ => rfl) (same _ fun _ => rfl) ?_
  refine sentRun_append_fresh (sentRun_take h.sent p) fun n hn => ?_
  obtain ⟨m, _, rfl⟩ := List.mem_map.mp hn
  rfl

/-- A notice joins a queue that has room for it (R125, R127, R129). -/
theorem append (h : au.Consistent) {kind : NoticeKind} (room : au.queue.length < 64) (calm : au.summaryDue = false)
    (events : kind.isEvent = true → au.eventCount < 56) : (au.append kind).Consistent where
  length := by simp; omega
  events := by
    have old := h.events
    cases event : kind.isEvent with
    | false => simpa [AttentionUnit.eventCount, event] using old
    | true =>
      have := events event
      simp only [AttentionUnit.eventCount, AttentionUnit.append_queue, List.filter_append, List.length_append] at this ⊢
      simp [event]
      omega
  nextSeq := nextSequence_range h.nextSeq
  numbers := fun n hn => by
    rcases List.mem_append.mp hn with old | new
    · exact h.numbers n old
    · obtain rfl := List.mem_singleton.mp new
      exact h.nextSeq
  numbering := consecutive_append h.numbering kind .fresh
  sent := sentRun_append_fresh h.sent fun n hn => by rw [List.mem_singleton.mp hn]
  lost := h.lost
  summaryFull := fun due => absurd (calm.symm.trans due) (by decide)
  summaryClear := h.summaryClear

theorem bumpLost_range {n : Nat} (h : n ≤ 65535) : 1 ≤ bumpLost n ∧ bumpLost n ≤ 65535 := by
  unfold bumpLost Config.max16
  split <;> omega

/-- Posting a system notice keeps the Attention Unit consistent (R130). -/
theorem post (h : au.Consistent) {kind : NoticeKind} (system : kind.isEvent = false) : (au.post kind).Consistent := by
  rcases au.post_cases kind with ⟨due, eq⟩ | ⟨calm, room, eq⟩ | ⟨calm, full, eq⟩
  · rw [eq]
    exact { h with
      lost := (bumpLost_range h.lost).2
      summaryFull := fun _ => ⟨(h.summaryFull due).1, (bumpLost_range h.lost).1⟩
      summaryClear := fun clear => absurd (clear.symm.trans due) (by decide) }
  · rw [eq]
    exact h.append room calm fun event => absurd (system.symm.trans event) (by decide)
  · rw [eq]
    exact { h with
      lost := by simp
      summaryFull := fun _ => ⟨Nat.le_antisymm h.length full, Nat.le_refl 1⟩
      summaryClear := fun clear => by simp at clear }

theorem foldl_post (h : au.Consistent) (kinds : List NoticeKind) (system : ∀ kind ∈ kinds, kind.isEvent = false) :
    (kinds.foldl AttentionUnit.post au).Consistent := by
  induction kinds generalizing au with
  | nil => exact h
  | cons kind kinds ih =>
    exact ih (h.post (system kind (by simp))) fun other ho => system other (by simp [ho])

/-- A module event joins a queue that admits one (R129). -/
theorem appendEvent (h : au.Consistent) (room : au.admitsEvent = true) (kind : NoticeKind) :
    (au.append kind).Consistent := by
  obtain ⟨length, events⟩ : au.queue.length ≤ 55 ∧ au.eventCount < 56 := by
    simp only [AttentionUnit.admitsEvent, Bool.and_eq_true, decide_eq_true_eq] at room
    exact room
  have calm : au.summaryDue = false := by
    rw [← Bool.not_eq_true]
    intro due
    have := (h.summaryFull due).1
    omega
  exact h.append (by omega) calm fun _ => events

/-- An acknowledgement frees at least one entry, which a due SUMMARY then takes (R131, R134). -/
theorem acknowledge (h : au.Consistent) (nonempty : au.queue ≠ []) (p : Nat) : (au.acknowledge p).Consistent := by
  have positive : 0 < au.queue.length := List.length_pos_iff.mpr nonempty
  have bound := h.length
  have events : ((au.queue.drop (p + 1)).filter fun n => n.kind.isEvent).length ≤ 56 :=
    (((List.drop_sublist _ _).filter _).length_le).trans h.events
  have numbers : ∀ n ∈ au.queue.drop (p + 1), 1 ≤ n.seq ∧ n.seq ≤ 65535 :=
    fun n hn => h.numbers n (List.mem_of_mem_drop hn)
  unfold AttentionUnit.acknowledge AttentionUnit.summarise
  dsimp only
  split
  next due =>
    have freed : AttentionUnit.Consistent
        { au with queue := au.queue.drop (p + 1), summaryDue := false, lostCount := 0 } :=
      { length := by simp; omega
        events := events, nextSeq := h.nextSeq, numbers := numbers
        numbering := consecutive_drop h.numbering _
        sent := sentRun_drop h.sent _
        lost := by simp
        summaryFull := fun due => by simp at due
        summaryClear := fun _ => rfl }
    exact freed.append (by simp; omega) rfl fun event => by simp [NoticeKind.isEvent] at event
  next calm =>
    have calm : au.summaryDue = false := by simpa using calm
    exact
      { length := by simp; omega
        events := events, nextSeq := h.nextSeq, numbers := numbers
        numbering := consecutive_drop h.numbering _
        sent := sentRun_drop h.sent _
        lost := h.lost
        summaryFull := fun due => absurd (calm.symm.trans due) (by decide)
        summaryClear := h.summaryClear }

theorem restart (h : au.Consistent) : au.restart.Consistent where
  length := by simp [AttentionUnit.restart]
  events := by simp [AttentionUnit.restart, AttentionUnit.eventCount]
  nextSeq := h.nextSeq
  numbers := by simp [AttentionUnit.restart]
  numbering := trivial
  sent := by simp [AttentionUnit.restart, sentRun]
  lost := by simp [AttentionUnit.restart]
  summaryFull := fun due => by simp [AttentionUnit.restart] at due
  summaryClear := fun _ => rfl

/-- The Event Enable map is no part of the account of the notices. -/
theorem enable (h : au.Consistent) (map : Vector Bool 256) : AttentionUnit.Consistent { au with enabled := map } :=
  { h with }

end AttentionUnit.Consistent

theorem AttentionUnit.powerOn_consistent : AttentionUnit.powerOn.Consistent where
  length := by simp [AttentionUnit.powerOn]
  events := by simp [AttentionUnit.powerOn, AttentionUnit.eventCount]
  nextSeq := by simp [AttentionUnit.powerOn]
  numbers := by simp [AttentionUnit.powerOn]
  numbering := trivial
  sent := by simp [AttentionUnit.powerOn, sentRun]
  lost := by simp [AttentionUnit.powerOn]
  summaryFull := fun due => by simp [AttentionUnit.powerOn] at due
  summaryClear := fun _ => rfl

theorem AttentionUnit.position?_nonempty {au : AttentionUnit} {q p : Nat} (h : au.position? q = some p) :
    au.queue ≠ [] := by
  intro empty
  simp [AttentionUnit.position?, empty] at h

/-! ## Every step keeps the Attention Unit consistent -/

theorem State.commitNotices_system (s : State) (mark : CommitMark) :
    ∀ kind ∈ s.commitNotices mark, kind.isEvent = false := by
  intro kind hk
  rcases List.mem_cons.mp hk with rfl | loser
  · rfl
  · obtain ⟨k, _, rfl⟩ := List.mem_map.mp loser
    rfl

theorem State.commit_consistent {s : State} (h : s.au.Consistent) (mark : CommitMark) :
    (s.commit mark).au.Consistent := by
  rw [State.commit_eq]
  exact h.foldl_post _ (s.commitNotices_system mark)

theorem State.Works.consistent {s t : State} (works : s.Works t) (h : s.au.Consistent) : t.au.Consistent := by
  induction works with
  | trans _ _ first second => exact second (first h)
  | commit s _ => exact State.commit_consistent h _
  | post s kind system => exact h.post system
  | event s kind room => exact h.appendEvent room kind
  | endTenure s k status => rw [State.endTenure_au]; exact h
  | _ => exact h

@[simp] theorem State.restart_au (s : State) (scope : RestartScope) : (s.restart scope).au = s.au.restart := by
  obtain ⟨_, _, _, _, au, _, _⟩ := State.abortQueues_keeps slotNumbers s
  simp only [State.restart, State.forgetNotice, au]

theorem State.addClass_works (s : State) (c : ClassEntry) :
    State.Works { s with pe := { s.pe with catalogue := insertByRank c s.pe.catalogue } } (s.addClass c) :=
  (State.Works.bumpStamp _).trans (State.foldl_rejudge_works _ _)

theorem State.Serves.consistent {s t : State} {r : HostRequest} {q : Request} (serves : s.Serves r q t)
    (h : s.au.Consistent) : t.au.Consistent := by
  cases serves with
  | answered => exact h
  | params f p _ =>
    rw [State.answer_au]
    unfold State.setParams
    dsimp only
    split <;> exact h
  | restarted _ scope => exact (s.restart_au scope).symm ▸ h.restart
  | redefined => exact h
  | created f c _ _ _ => exact (s.addClass_works c).consistent h
  | dropped => exact h
  | committed => exact State.commit_consistent h _
  | acknowledged q p queued => exact h.acknowledge (AttentionUnit.position?_nonempty queued) p
  | resent q p _ => exact h.resend p
  | enabled => exact h.enable _
  | linkCleared => exact h
  | laneCleared => exact h
  | probed _ k _ =>
    rw [State.answer_au]
    exact ((State.Works.endTenure s k _).trans (State.enterProbing_works _ k)).consistent h
  | released _ k _ => exact (State.advance_works _ k).consistent h
  | accepted => exact (State.advance_works _ _).consistent h
  | withdrawn _ t _ _ => exact (State.advance_works _ _).consistent h
  | cancelled _ t _ _ => exact (State.cancelExchange_works _ _).consistent h

theorem State.hostFrameSent_consistent {s : State} (h : s.au.Consistent) (source : FrameSource) :
    (s.hostFrameSent source).au.Consistent := by
  unfold State.hostFrameSent
  dsimp only
  split
  · exact h
  · unfold State.replySent
    split <;> exact h
  · exact h.markSent _
  · exact h

theorem State.Happens.consistent {s u : State} {c : Instr} (happens : s.Happens c u) (h : s.au.Consistent) :
    u.au.Consistent := by
  cases happens with
  | hostByteReceived line _ => rw [(s.takeHostByte_linkWork _).au]; exact h
  | gapTimerExpiry => exact h
  | hostFrameSent f _ => exact State.hostFrameSent_consistent h _
  | presenceRise => exact h
  | presenceLoss k _ => exact (s.losePresence_works k).consistent h
  | settlePeriodExpiry k _ => exact (s.enterProbing_works k).consistent h
  | laneByteReceived k line _ => exact (s.takeLaneByte_works k _).consistent h
  | laneSilenceTimeout => exact h
  | replyTimeExpiry k x _ _ => exact ((s.replyExpired_works k x).trans (State.advance_works _ k)).consistent h
  | laneFrameSent k f _ => exact ((s.frameSent_works k f).trans (State.laneTransmit_works _ k)).consistent h

theorem exec_consistent {c : Instr} {s t : State} (h : s.au.Consistent) (next : exec c s = .next t) :
    t.au.Consistent := by
  rcases exec_cases next with rfl | ⟨_, rfl⟩ | ⟨_, _, _, _, _, rfl⟩ | ⟨r, _, _, rfl⟩ | ⟨_, u, happens, rfl⟩
  · exact h
  · exact AttentionUnit.powerOn_consistent
  · exact h
  · rw [State.transmit_au]
    exact (State.serve_serves _ r _).consistent h
  · rw [State.transmit_au]
    exact happens.consistent h

/-- Settles O55: a notice joins the queue only where there is room for it, and the other operations only shorten the queue
or change delivery states. -/
theorem attentionStaysConsistent : Obligations.AttentionStaysConsistent := by
  unfold Obligations.AttentionStaysConsistent
  intro s t h next
  rcases step_cases next with ⟨_, rfl⟩ | ⟨c, rest, _, run⟩
  · exact h
  · exact exec_consistent (s := { s with pending := rest }) h run

end Sys2Proof.Machine
end

section
/-! SUPPORT. The Class Catalogue (R1, R3): what the insertion and the removal of an entry keep, and the proof that every
step keeps the catalogue consistent. -/

namespace Sys2Proof.Machine

-- One proof at a time: many side by side take a thread and its stack each.
set_option Elab.async false

/-! ## Insertion in rank order -/

theorem insertByRank_perm (c : ClassEntry) (catalogue : List ClassEntry) :
    (insertByRank c catalogue).Perm (c :: catalogue) := by
  induction catalogue with
  | nil => exact .refl _
  | cons x xs ih =>
    unfold insertByRank
    split
    · exact .refl _
    · exact (ih.cons x).trans (.swap c x xs)

theorem insertByRank_ranks {c : ClassEntry} {catalogue : List ClassEntry}
    (ranks : catalogue.Pairwise fun a b => a.rank < b.rank) (free : ∀ d ∈ catalogue, d.rank ≠ c.rank) :
    (insertByRank c catalogue).Pairwise fun a b => a.rank < b.rank := by
  induction catalogue with
  | nil => simp [insertByRank]
  | cons x xs ih =>
    obtain ⟨below, sorted⟩ := List.pairwise_cons.mp ranks
    unfold insertByRank
    split
    next lower =>
      refine List.pairwise_cons.mpr ⟨fun d hd => ?_, ranks⟩
      rcases List.mem_cons.mp hd with rfl | later
      · exact lower
      · exact lower.trans (below d later)
    next higher =>
      refine List.pairwise_cons.mpr ⟨fun d hd => ?_, ih sorted fun d hd => free d (by simp [hd])⟩
      rcases List.mem_cons.mp ((insertByRank_perm c xs).mem_iff.mp hd) with rfl | later
      · have := free x (by simp)
        omega
      · exact below d later

theorem Region.Disjoint.symm {a b : Region} (h : Region.Disjoint a b) : Region.Disjoint b a := Or.symm h

/-- The anchor region of a new entry is disjoint from those of the entries there are (R3). -/
def ClassEntry.Clear (c : ClassEntry) (catalogue : List ClassEntry) : Prop :=
  ∀ a, c.region? = some a → ∀ d ∈ catalogue, ∀ b, d.region? = some b → Region.Disjoint a b

namespace CatalogueConsistent

variable {catalogue : List ClassEntry}

theorem nil : CatalogueConsistent [] where
  length := by simp
  valid := by simp
  ranks := .nil
  codes := by simp
  anchors := .nil

theorem sublist (h : CatalogueConsistent catalogue) {part : List ClassEntry} (sub : part.Sublist catalogue) :
    CatalogueConsistent part where
  length := sub.length_le.trans h.length
  valid := fun c hc => h.valid c (sub.subset hc)
  ranks := h.ranks.sublist sub
  codes := h.codes.sublist (sub.map _)
  anchors := h.anchors.sublist (sub.filterMap _)

theorem withoutClass (h : CatalogueConsistent catalogue) (code : Nat) :
    CatalogueConsistent (Machine.withoutClass catalogue code) := h.sublist List.filter_sublist

/-- A valid entry of a new code and a free rank, its anchor region clear of the others, joins the catalogue (R1, R3, R5). -/
theorem insert (h : CatalogueConsistent catalogue) {c : ClassEntry} (room : catalogue.length < 32) (valid : c.Valid)
    (rank : ∀ d ∈ catalogue, d.rank ≠ c.rank) (code : ∀ d ∈ catalogue, d.code ≠ c.code) (clear : c.Clear catalogue) :
    CatalogueConsistent (insertByRank c catalogue) where
  length := by rw [(insertByRank_perm c catalogue).length_eq]; exact room
  valid := fun d hd => by
    rcases List.mem_cons.mp ((insertByRank_perm c catalogue).mem_iff.mp hd) with rfl | old
    · exact valid
    · exact h.valid d old
  ranks := insertByRank_ranks h.ranks rank
  codes := by
    rw [((insertByRank_perm c catalogue).map _).nodup_iff]
    refine List.nodup_cons.mpr ⟨fun known => ?_, h.codes⟩
    obtain ⟨d, hd, same⟩ := List.mem_map.mp known
    exact code d hd same
  anchors := by
    have regions : (anchorRegions (insertByRank c catalogue)).Perm (anchorRegions (c :: catalogue)) :=
      (insertByRank_perm c catalogue).filterMap _
    rw [regions.pairwise_iff fun disjoint => disjoint.symm]
    unfold anchorRegions
    cases own : c.region? with
    | none =>
      rw [List.filterMap_cons, own]
      exact h.anchors
    | some a =>
      rw [List.filterMap_cons, own]
      refine List.pairwise_cons.mpr ⟨fun b hb => ?_, h.anchors⟩
      obtain ⟨d, hd, region⟩ := List.mem_filterMap.mp hb
      exact clear a own d hd b region

/-- No two entries of a consistent catalogue have the same code (R1). -/
theorem eq_of_code_eq (h : CatalogueConsistent catalogue) {c d : ClassEntry} (hc : c ∈ catalogue) (hd : d ∈ catalogue)
    (same : c.code = d.code) : c = d := List.inj_on_of_nodup_map h.codes hc hd same

end CatalogueConsistent

theorem mem_withoutClass {catalogue : List ClassEntry} {code : Nat} {d : ClassEntry} :
    d ∈ withoutClass catalogue code ↔ d ∈ catalogue ∧ d.code ≠ code := by
  simp [withoutClass]

/-! ## The checks of R4 -/

/-- A class entry that passes check 1 of R4 is the one the fields describe, and valid. -/
theorem ClassFields.check_eq_some {f : ClassFields} {c : ClassEntry} (passed : f.check = some c) :
    c = f.entry ∧ f.entry.Valid := by
  unfold ClassFields.check Config.windowSpace at passed
  split at passed
  next => cases passed
  next range =>
    split at passed
    next => cases passed
    next anchor =>
      refine ⟨(Option.some.inj passed).symm, ⟨⟨?_, ?_⟩, ?_, ⟨?_, ?_⟩, ?_, ?_, ?_, ?_⟩⟩
      case refine_9 =>
        intro b hb
        simp only [ClassFields.entry] at hb
        split at hb
        next anchored =>
          obtain rfl := Option.some.inj hb
          change f.anchorBase % 2 ^ f.exponent = 0 ∧ f.anchorBase + f.size ≤ 65536
          omega
        next => cases hb
      all_goals dsimp only [ClassFields.entry]; omega

theorem ClassEntry.clear_of_not_conflict {catalogue : List ClassEntry} {f : ClassFields}
    (clear : ¬f.AnchorConflict catalogue) : f.entry.Clear (withoutClass catalogue f.code) := by
  intro a own d hd b region
  obtain ⟨hd, other⟩ := mem_withoutClass.mp hd
  by_contra overlap
  apply clear
  by_cases anchored : f.anchorIndication = 1
  · obtain ⟨base, anchor, rfl⟩ : ∃ base, d.anchor = some base ∧ ⟨base, d.size⟩ = b := by
      simpa [ClassEntry.region?] using region
    have own : ⟨f.anchorBase, f.size⟩ = a := by
      simpa [ClassEntry.region?, ClassFields.entry, anchored] using own
    exact ⟨anchored, d, hd, other, base, anchor, own ▸ overlap⟩
  · simp [ClassEntry.region?, ClassFields.entry, anchored] at own

theorem withoutClass_of_new {catalogue : List ClassEntry} {code : Nat} (new : ∀ d ∈ catalogue, d.code ≠ code) :
    withoutClass catalogue code = catalogue := by
  refine List.filter_eq_self.mpr fun d hd => ?_
  simpa using new d hd

/-- A known class leaves an entry free when it is taken out. -/
theorem length_withoutClass_lt {catalogue : List ClassEntry} {code : Nat} (known : ∃ d ∈ catalogue, d.code = code) :
    (withoutClass catalogue code).length < catalogue.length := by
  obtain ⟨d, hd, rfl⟩ := known
  exact List.length_filter_lt_length_iff_exists.mpr ⟨d, hd, by simp⟩

section
variable {s : State} {f : ClassFields}

/-- What checks 2 to 5 of R4 have found when none refuses. -/
theorem State.refuseDefine_eq_none :
    s.refuseDefine f.entry = none ↔
      (∀ d ∈ s.pe.catalogue, d.rank = f.rank → d.code = f.code) ∧
      ((∃ d ∈ s.pe.catalogue, d.code = f.code) ∨ s.pe.catalogue.length < 32) ∧
      ¬f.AnchorConflict s.pe.catalogue ∧ ¬((∃ d ∈ s.pe.catalogue, d.code = f.code) ∧ s.Carried f.code) := by
  rw [State.refuseDefine_entry]
  split_ifs with ranked full conflict used
  · simpa using fun free => absurd (free _ ranked.choose_spec.1 ranked.choose_spec.2.1) ranked.choose_spec.2.2
  · simp only [false_iff]
    rintro ⟨_, known | room, _⟩
    · exact full.1 known
    · omega
  · simp [conflict]
  · simp [used]
  · simp only [true_iff]
    refine ⟨fun d hd rank => ?_, ?_, conflict, used⟩
    · by_contra other
      exact ranked ⟨d, hd, rank, other⟩
    · by_cases known : ∃ d ∈ s.pe.catalogue, d.code = f.code
      · exact .inl known
      · exact .inr (by by_contra fullTable; exact full ⟨known, by omega⟩)

/-- The catalogue with the entry of a Define Class in place of the one of its code, if any, is consistent (R5, R6). -/
theorem CatalogueConsistent.define (h : CatalogueConsistent s.pe.catalogue) (valid : f.entry.Valid)
    (passed : s.refuseDefine f.entry = none) :
    CatalogueConsistent (insertByRank f.entry (Machine.withoutClass s.pe.catalogue f.code)) := by
  obtain ⟨rank, room, clear, _⟩ := State.refuseDefine_eq_none.mp passed
  refine (h.withoutClass _).insert ?_ valid (fun d hd same => ?_) (fun d hd => (mem_withoutClass.mp hd).2)
    (ClassEntry.clear_of_not_conflict clear)
  · by_cases known : ∃ d ∈ s.pe.catalogue, d.code = f.code
    · exact (length_withoutClass_lt known).trans_le h.length
    · exact (List.length_filter_le _ _).trans_lt (room.resolve_left known)
  · obtain ⟨hd, other⟩ := mem_withoutClass.mp hd
    exact other (rank d hd same)

end

/-! ## Every step keeps the catalogue consistent -/

@[simp] theorem State.setParams_catalogue (s : State) (p : Params) :
    (s.setParams p).pe.catalogue = s.pe.catalogue := by
  unfold State.setParams
  dsimp only
  split <;> rfl

theorem State.restart_catalogue (s : State) (scope : RestartScope) :
    (s.restart scope).pe.catalogue = if scope = .full then [] else s.pe.catalogue := by
  obtain ⟨_, _, pe, _⟩ := State.abortQueues_keeps slotNumbers s
  simp only [State.restart, State.forgetNotice, pe]

theorem State.addClass_catalogue (s : State) (c : ClassEntry) :
    (s.addClass c).pe.catalogue = insertByRank c s.pe.catalogue := (s.addClass_works c).link.catalogue

theorem State.Serves.catalogue {s t : State} {r : HostRequest} {q : Request} (serves : s.Serves r q t)
    (h : CatalogueConsistent s.pe.catalogue) : CatalogueConsistent t.pe.catalogue := by
  cases serves with
  | answered => exact h
  | params f p _ =>
    rw [State.answer_pe, State.setParams_catalogue]
    exact h
  | restarted _ scope =>
    rw [State.serveRestart, State.answer_pe, State.restart_catalogue]
    split
    · exact .nil
    · exact h
  | redefined f c valid passed known =>
    obtain ⟨rfl, inRange⟩ := ClassFields.check_eq_some valid
    exact h.define inRange passed
  | created f c valid passed new =>
    obtain ⟨rfl, inRange⟩ := ClassFields.check_eq_some valid
    have defined := h.define inRange passed
    rw [withoutClass_of_new (code := f.code) fun d hd same => new ⟨d, hd, same⟩] at defined
    rw [State.answer_pe, State.addClass_catalogue]
    exact defined
  | dropped code _ => exact h.withoutClass code
  | committed => rw [State.answer_pe, State.commit_catalogue]; exact h
  | acknowledged => exact h
  | resent => exact h
  | enabled => exact h
  | linkCleared => exact h
  | laneCleared => exact h
  | probed _ k _ =>
    rw [State.answer_pe, (State.enterProbing_works _ k).link.catalogue, State.endTenure_pe]
    exact h
  | released _ k _ => rw [(State.advance_works _ k).link.catalogue]; exact h
  | accepted =>
    unfold State.accept
    rw [(State.advance_works _ _).link.catalogue]
    exact h
  | withdrawn => rw [(State.advance_works _ _).link.catalogue]; exact h
  | cancelled => rw [(State.cancelExchange_works _ _).link.catalogue]; exact h

theorem State.hostFrameSent_pe (s : State) (source : FrameSource) : (s.hostFrameSent source).pe = s.pe := by
  unfold State.hostFrameSent
  dsimp only
  split
  · rfl
  · unfold State.replySent
    split <;> rfl
  · rfl
  · rfl

theorem State.Happens.catalogue {s u : State} {c : Instr} (happens : s.Happens c u) :
    u.pe.catalogue = s.pe.catalogue := by
  cases happens with
  | hostByteReceived line _ => rw [(s.takeHostByte_linkWork _).pe]
  | gapTimerExpiry => rfl
  | hostFrameSent f _ => rw [State.hostFrameSent_pe]
  | presenceRise => rfl
  | presenceLoss k _ => exact (s.losePresence_works k).link.catalogue
  | settlePeriodExpiry k _ => exact (s.enterProbing_works k).link.catalogue
  | laneByteReceived k line _ => exact (s.takeLaneByte_works k _).link.catalogue
  | laneSilenceTimeout => rfl
  | replyTimeExpiry k x _ _ => exact ((s.replyExpired_works k x).trans (State.advance_works _ k)).link.catalogue
  | laneFrameSent k f _ => exact ((s.frameSent_works k f).trans (State.laneTransmit_works _ k)).link.catalogue

theorem exec_catalogue {c : Instr} {s t : State} (h : CatalogueConsistent s.pe.catalogue)
    (next : exec c s = .next t) : CatalogueConsistent t.pe.catalogue := by
  rcases exec_cases next with rfl | ⟨_, rfl⟩ | ⟨_, _, _, _, _, rfl⟩ | ⟨r, _, _, rfl⟩ | ⟨_, u, happens, rfl⟩
  · exact h
  · exact .nil
  · exact h
  · rw [State.transmit_pe]
    exact (State.serve_serves _ r _).catalogue h
  · rw [State.transmit_pe, happens.catalogue]
    exact h

/-- Settles O56: the checks of R4 are what a new entry needs to join a consistent catalogue, and the other commands leave
the catalogue or take entries out of it. -/
theorem catalogueStaysConsistent : Obligations.CatalogueStaysConsistent := by
  unfold Obligations.CatalogueStaysConsistent
  intro s t h next
  rcases step_cases next with ⟨_, rfl⟩ | ⟨c, rest, _, run⟩
  · exact h
  · exact exec_catalogue (s := { s with pending := rest }) h run

end Sys2Proof.Machine
end

section
/-! SUPPORT. The account of tags, replies owed, transactions and blocks (R104 to R107, R147, R149, R151): what the end of a
transaction, a reply, an accepted access and the Host Link do to it, and the proof that every step keeps it. -/

namespace Sys2Proof.Machine

-- One proof at a time: many side by side take a thread and its stack each.
set_option Elab.async false

/-! ## What the account depends on -/

/-- The account reads the two queues of the Host Link, the Transaction Table and the owner records of the Buffer Pool, and
nothing else. -/
theorem State.LedgerInvariant.congr_owners {s t : State} (h : s.LedgerInvariant)
    (requests : t.hli.requests = s.hli.requests) (replies : t.hli.replies = s.hli.replies)
    (transactions : t.transactions = s.transactions) (owners : ∀ b : BlockNo, t.pool[b].owner = s.pool[b].owner) :
    t.LedgerInvariant := by
  obtain ⟨⟨hrequests, howed, htags⟩, ⟨htable, hlanes, hcounts, hblocks⟩, ⟨honce, hfree, htrans, hreplies⟩⟩ := h
  have owed : t.owed = s.owed := by rw [State.owed, State.owed, replies, transactions]
  have tags : t.tags = s.tags := by rw [State.tags, State.tags, requests, transactions]
  have held : t.heldBlocks = s.heldBlocks := by rw [State.heldBlocks, State.heldBlocks, replies, transactions]
  have lane (k : SlotNo) : t.laneQueue k = s.laneQueue k := by rw [State.laneQueue, State.laneQueue, transactions]
  refine ⟨⟨requests ▸ hrequests, owed ▸ howed, tags ▸ htags⟩, ⟨transactions ▸ htable, fun k => lane k ▸ hlanes k,
    transactions ▸ hcounts, transactions ▸ hblocks⟩, ⟨held ▸ honce, ?_, ?_, ?_⟩⟩
  · simpa only [owners, held] using hfree
  · simpa only [owners, transactions] using htrans
  · simpa only [owners, replies] using hreplies

theorem State.LedgerInvariant.congr {s t : State} (h : s.LedgerInvariant) (requests : t.hli.requests = s.hli.requests)
    (replies : t.hli.replies = s.hli.replies) (transactions : t.transactions = s.transactions) (pool : t.pool = s.pool) :
    t.LedgerInvariant := h.congr_owners requests replies transactions fun b => by rw [pool]

theorem State.LedgerInvariant.tagsDistinct {s : State} (h : s.LedgerInvariant) : s.TagsDistinct :=
  (List.nodup_append.mp h.link.tags).2.1

theorem State.owed_congr {s t : State} (replies : t.hli.replies = s.hli.replies)
    (transactions : t.transactions = s.transactions) : t.owed = s.owed := by
  rw [State.owed, State.owed, replies, transactions]

/-! ## The end of a transaction (R107, R119) -/

/-- With distinct tags, the entry that leaves the table with a tag is the one that has it. -/
theorem transactions_perm {ts : List Transaction} (distinct : (ts.map Transaction.tag).Nodup) {t : Transaction}
    (present : t ∈ ts) : ts.Perm (t :: ts.filter fun u => !(u.tag == t.tag)) := by
  induction ts with
  | nil => cases present
  | cons x xs ih =>
    obtain ⟨fresh, distinct⟩ := List.nodup_cons.mp distinct
    rcases List.mem_cons.mp present with rfl | later
    · have rest : xs.filter (fun u => !(u.tag == t.tag)) = xs := by
        refine List.filter_eq_self.mpr fun u hu => ?_
        have : u.tag ≠ t.tag := fun same => fresh (List.mem_map.mpr ⟨u, hu, same⟩)
        simpa using this
      rw [List.filter_cons_of_neg (by simp), rest]
    · have other : x.tag ≠ t.tag := fun same => fresh (List.mem_map.mpr ⟨t, later, same.symm⟩)
      rw [List.filter_cons_of_pos (by simpa using other)]
      exact ((ih distinct later).cons x).trans (.swap t x _)

/-- The blocks held, after and before the end of a transaction. -/
theorem State.heldBlocks_endTransaction {s : State} (distinct : s.TagsDistinct) {t : Transaction}
    (present : t ∈ s.transactions) (owner : BlockOwner) (status : Status) (fields : ReplyFields) :
    ∃ others, s.heldBlocks.Perm (t.blocks ++ others) ∧
      (s.endTransaction t owner status fields).heldBlocks.Perm
        ((Reply.mk (replyCode t.kind.code) t.tag status fields).blocks ++ others) := by
  refine ⟨(s.transactions.filter fun u => !(u.tag == t.tag)).flatMap Transaction.blocks ++
    s.hli.replies.flatMap Reply.blocks, ?_, ?_⟩
  · have split := (transactions_perm distinct present).flatMap_right Transaction.blocks
    rw [List.flatMap_cons] at split
    rw [← List.append_assoc]
    exact split.append_right _
  · unfold State.heldBlocks
    simp only [State.endTransaction_transactions, State.endTransaction_hli, List.flatMap_append, List.flatMap_singleton]
    rw [← List.append_assoc]
    exact List.perm_append_comm

section
variable {s : State}

/-- The end of a transaction keeps the account (R104, R106, R107, R119). -/
theorem State.LedgerInvariant.ending (h : s.LedgerInvariant) {t : Transaction} (present : t ∈ s.transactions)
    {owner : BlockOwner} (status : Status) {fields : ReplyFields} (fits : t.EndsWith owner fields) :
    (s.endTransaction t owner status fields).LedgerInvariant ∧ (s.endTransaction t owner status fields).owed = s.owed := by
  have distinct := h.tagsDistinct
  have remain : (s.transactions.filter fun u => !(u.tag == t.tag)).Sublist s.transactions := List.filter_sublist
  have length := (transactions_perm distinct present).length_eq
  have owed : (s.endTransaction t owner status fields).owed = s.owed := by
    simp only [State.owed, State.endTransaction_hli, State.endTransaction_transactions, List.length_append,
      List.length_cons, List.length_nil] at length ⊢
    omega
  obtain ⟨others, before, after⟩ := State.heldBlocks_endTransaction distinct present owner status fields
  have once := before.nodup_iff.mp h.pool.once
  have apart : ∀ b ∈ t.blocks, b ∉ others := fun b hb ho => (List.nodup_append.mp once).2.2 b hb b ho rfl
  have own : ∀ b ∈ t.blocks, s.pool[b].owner = .transaction t.tag := h.pool.transactions t present
  refine ⟨⟨⟨h.link.requests, owed ▸ h.link.owed, ?_⟩, ⟨?_, fun k => ?_, ?_, ?_⟩, ⟨?_, fun b => ?_, ?_, ?_⟩⟩, owed⟩
  · exact h.link.tags.sublist ((List.Sublist.refl _).append (remain.map _))
  · exact remain.length_le.trans h.table.table
  · exact ((remain.filter _).length_le).trans (h.table.lanes k)
  · exact fun u hu => h.table.counts u (remain.subset hu)
  · exact fun u hu => h.table.blocks u (remain.subset hu)
  · rw [after.nodup_iff]
    rcases fits with ⟨_, none⟩ | ⟨_, rfl⟩
    · rw [none]; exact (List.nodup_append.mp once).2.1
    · exact once
  · rw [State.endTransaction_pool, Pool.setOwner_get, after.mem_iff, List.mem_append]
    have old := h.pool.free b
    rw [before.mem_iff, List.mem_append] at old
    rcases fits with ⟨rfl, none⟩ | ⟨rfl, rfl⟩
    · rw [none]
      by_cases hb : b ∈ t.blocks
      · simp [hb, apart b hb]
      · simpa [hb] using old
    · by_cases hb : b ∈ t.blocks
      · simp [hb, Reply.blocks]
      · simpa [hb, Reply.blocks] using old
  · intro u hu b hb
    obtain ⟨hu, other⟩ := List.mem_filter.mp hu
    have owner := h.pool.transactions u hu b hb
    have not_own : b ∉ t.blocks := fun mine => by
      rw [own b mine] at owner
      injection owner with same
      simp [same] at other
    rw [State.endTransaction_pool, Pool.setOwner_get, if_neg not_own]
    exact owner
  · intro r hr b hb
    rw [State.endTransaction_pool, Pool.setOwner_get]
    rcases List.mem_append.mp hr with old | new
    · have owner := h.pool.replies r old b hb
      have not_own : b ∉ t.blocks := fun mine => by
        rw [own b mine] at owner
        cases owner
      rw [if_neg not_own]
      exact owner
    · obtain rfl := List.mem_singleton.mp new
      rcases fits with ⟨_, none⟩ | ⟨rfl, rfl⟩
      · rw [none] at hb; cases hb
      · rw [if_pos (by simpa [Reply.blocks] using hb)]

/-- Ending the transactions of a list one after another keeps the account (R117, R118). -/
theorem State.LedgerInvariant.foldl_ending (h : s.LedgerInvariant) (g : State → Transaction → State)
    (ends : ∀ u t, ∃ status fields, g u t = u.endTransaction t .free status fields ∧ t.EndsWith .free fields)
    (ts : List Transaction) (present : ∀ t ∈ ts, t ∈ s.transactions) (distinct : (ts.map Transaction.tag).Nodup) :
    (ts.foldl g s).LedgerInvariant ∧ (ts.foldl g s).owed = s.owed := by
  induction ts generalizing s with
  | nil => exact ⟨h, rfl⟩
  | cons t ts ih =>
    obtain ⟨status, fields, eq, fits⟩ := ends s t
    obtain ⟨own, distinct⟩ := List.nodup_cons.mp distinct
    obtain ⟨kept, owed⟩ := h.ending (present t (by simp)) status fits
    rw [List.foldl_cons, eq]
    refine (ih kept (fun u hu => ?_) distinct).imp_right fun same => same.trans owed
    have other : u.tag ≠ t.tag := fun same => own (List.mem_map.mpr ⟨u, hu, same⟩)
    simpa [other] using present u (by simp [hu])

theorem State.laneQueue_sublist (s : State) (k : SlotNo) : (s.laneQueue k).Sublist s.transactions := List.filter_sublist

theorem State.LedgerInvariant.endTenure (h : s.LedgerInvariant) (k : SlotNo) (status : Status) :
    (s.endTenure k status).LedgerInvariant ∧ (s.endTenure k status).owed = s.owed := by
  refine h.foldl_ending _ (fun u t => ?_) _ (fun t ht => (s.laneQueue_sublist k).subset ht)
    (h.tagsDistinct.sublist ((s.laneQueue_sublist k).map _))
  split
  · exact ⟨_, _, rfl, .inl ⟨rfl, fun _ _ _ => rfl⟩⟩
  · exact ⟨_, _, rfl, .inl ⟨rfl, fun _ _ _ => rfl⟩⟩

theorem State.LedgerInvariant.abortQueues (h : s.LedgerInvariant) (ks : List SlotNo) :
    (ks.foldl (fun s k => s.abortQueue k) s).LedgerInvariant ∧
      (ks.foldl (fun s k => s.abortQueue k) s).owed = s.owed := by
  induction ks generalizing s with
  | nil => exact ⟨h, rfl⟩
  | cons k ks ih =>
    obtain ⟨kept, owed⟩ := h.foldl_ending (fun s t => s.endWithout t .aborted)
      (fun u t => ⟨_, _, rfl, .inl ⟨rfl, fun _ _ _ => rfl⟩⟩) (s.laneQueue k)
      (fun t ht => (s.laneQueue_sublist k).subset ht) (h.tagsDistinct.sublist ((s.laneQueue_sublist k).map _))
    exact (ih kept).imp_right fun same => same.trans owed

/-- A change of the state of a transaction is no change of the account. -/
theorem State.LedgerInvariant.mark (h : s.LedgerInvariant) (tag : Byte) (st : TransactionState) :
    (s.setTransactionState tag st).LedgerInvariant := by
  let f : Transaction → Transaction := fun t => if t.tag == tag then { t with state := st } else t
  have same {α : Type} (g : Transaction → α) (hg : ∀ (t : Transaction) st, g { t with state := st } = g t)
      (t : Transaction) : g (f t) = g t := by
    change g (if t.tag == tag then _ else t) = g t
    split
    · exact hg t st
    · rfl
  have each {p : Transaction → Prop} (hp : ∀ (t : Transaction) st, p { t with state := st } = p t)
      (all : ∀ t ∈ s.transactions, p t) : ∀ t ∈ s.transactions.map f, p t := by
    intro t ht
    obtain ⟨u, hu, rfl⟩ := List.mem_map.mp ht
    rw [same p hp]
    exact all u hu
  have tags : (s.setTransactionState tag st).tags = s.tags := by
    change _ ++ (s.transactions.map f).map Transaction.tag = _
    rw [List.map_map, show Transaction.tag ∘ f = Transaction.tag from funext (same _ fun _ _ => rfl)]
    rfl
  have held : (s.setTransactionState tag st).heldBlocks = s.heldBlocks := by
    change (s.transactions.map f).flatMap Transaction.blocks ++ _ = _
    rw [List.flatMap_map, show (fun t => (f t).blocks) = Transaction.blocks from funext (same _ fun _ _ => rfl)]
    rfl
  have owed : (s.setTransactionState tag st).owed = s.owed := by simp [State.owed]
  refine ⟨⟨h.link.requests, owed ▸ h.link.owed, tags ▸ h.link.tags⟩, ⟨?_, fun k => ?_, ?_, ?_⟩, ⟨held ▸ h.pool.once, ?_,
    ?_, h.pool.replies⟩⟩
  · simpa using h.table.table
  · change ((s.transactions.map f).filter fun t => t.slot == k).length ≤ 4
    rw [List.filter_map, List.length_map,
      show (fun t : Transaction => t.slot == k) ∘ f = fun t => t.slot == k from
        funext (same (fun t => t.slot == k) fun _ _ => rfl)]
    exact h.table.lanes k
  · exact each (fun _ _ => rfl) h.table.counts
  · exact each (fun _ _ => rfl) h.table.blocks
  · rw [held]; exact h.pool.free
  · intro t ht b hb
    obtain ⟨u, hu, rfl⟩ := List.mem_map.mp ht
    rw [State.setTransactionState_pool, same Transaction.tag fun _ _ => rfl]
    exact h.pool.transactions u hu b (by rwa [same Transaction.blocks fun _ _ => rfl] at hb)

/-- Storing words in blocks changes no owner (R106). -/
theorem State.LedgerInvariant.store (h : s.LedgerInvariant) (blocks : List BlockNo) (ws : List Word) :
    State.LedgerInvariant { s with pool := s.pool.store blocks ws } :=
  h.congr_owners rfl rfl rfl (Pool.store_owner s.pool blocks ws)

/-! ## The operations of slots, lanes and transactions -/

theorem State.Works.ledger {t : State} (works : s.Works t) (h : s.LedgerInvariant) :
    t.LedgerInvariant ∧ t.owed = s.owed := by
  induction works with
  | refl s => exact ⟨h, rfl⟩
  | trans _ _ first second =>
    obtain ⟨middle, owed⟩ := first h
    exact (second middle).imp_right fun same => same.trans owed
  | slot => exact ⟨h.congr rfl rfl rfl rfl, State.owed_congr rfl rfl⟩
  | layout => exact ⟨h.congr rfl rfl rfl rfl, State.owed_congr rfl rfl⟩
  | commit s _ =>
    have kept := s.commit_keepsTraffic .automatic
    exact ⟨h.congr (by rw [kept.hli]) (by rw [kept.hli]) kept.transactions kept.pool,
      State.owed_congr (by rw [kept.hli]) kept.transactions⟩
  | post => exact ⟨h.congr rfl rfl rfl rfl, State.owed_congr rfl rfl⟩
  | event => exact ⟨h.congr rfl rfl rfl rfl, State.owed_congr rfl rfl⟩
  | ending s t owner status fields present fits => exact h.ending present status fits
  | endTenure s k status => exact h.endTenure k status
  | mark s tag st => exact ⟨h.mark tag st, by simp [State.owed]⟩
  | store s blocks ws => exact ⟨h.store blocks ws, State.owed_congr rfl rfl⟩

/-! ## Replies and accepted accesses (R107, R110, R111, R151) -/

/-- A reply that lists no blocks, while fewer than 48 are owed (R149, R151). -/
theorem State.LedgerInvariant.answer (h : s.LedgerInvariant) (room : s.owed < 48) (r : HostRequest) (status : Status)
    {fields : ReplyFields} (noBlocks : fields.NoBlocks) : (s.answer r status fields).LedgerInvariant := by
  have held : (s.answer r status fields).heldBlocks = s.heldBlocks := by
    simp [State.heldBlocks, noBlocks _ _ _]
  refine ⟨⟨h.link.requests, ?_, h.link.tags⟩, ⟨h.table.table, h.table.lanes, h.table.counts, h.table.blocks⟩,
    ⟨held ▸ h.pool.once, ?_, h.pool.transactions, fun q hq b hb => ?_⟩⟩
  · simp only [State.owed, State.answer_hli, State.answer_transactions, List.length_append, List.length_cons,
      List.length_nil] at room ⊢
    omega
  · rw [held]; exact h.pool.free
  · rcases List.mem_append.mp hq with old | new
    · exact h.pool.replies q old b hb
    · obtain rfl := List.mem_singleton.mp new
      rw [noBlocks] at hb
      cases hb

/-- What the capacity checks of R110 have found when none refuses. -/
theorem State.refuseAccess_eq_none {k : SlotNo} {count : Nat} :
    s.refuseAccess k count = none ↔ (s.slot k).state = .placed ∧ s.transactions.length < 32 ∧
      (s.laneQueue k).length < 4 ∧ blocksFor count ≤ s.pool.freeBlocks.length := by
  unfold State.refuseAccess Config.transactionCapacity Config.laneCapacity
  split_ifs with state table lane blocks
  · simp [state]
  · simp; omega
  · simp; omega
  · simp; omega
  · simp only [true_iff]
    exact ⟨by simpa using state, by omega, by omega, by omega⟩

/-- The state with the entry and the blocks of an accepted access, before its lane goes on (R106, R107, R111). -/
def State.admitted (s : State) (tag : Byte) (kind : AccessKind) (k : SlotNo) (offset count : Nat) (data : List Word) :
    State :=
  { s with
    pool :=
      if kind = .write then
        (s.pool.setOwner (s.pool.freeBlocks.take (blocksFor count)) (.transaction tag)).store
          (s.pool.freeBlocks.take (blocksFor count)) data
      else s.pool.setOwner (s.pool.freeBlocks.take (blocksFor count)) (.transaction tag)
    transactions := s.transactions ++
      [{ tag := tag, kind := kind, slot := k, offset := offset, count := count,
         blocks := s.pool.freeBlocks.take (blocksFor count), state := .waiting, generation := s.pe.generation }] }

theorem State.accept_eq (s : State) (tag : Byte) (kind : AccessKind) (k : SlotNo) (offset count : Nat)
    (data : List Word) : s.accept tag kind k offset count data = (s.admitted tag kind k offset count data).advance k := rfl

theorem State.admitted_owner (tag : Byte) (kind : AccessKind) (k : SlotNo) (offset count : Nat) (data : List Word)
    (b : BlockNo) : (s.admitted tag kind k offset count data).pool[b].owner =
      if b ∈ s.pool.freeBlocks.take (blocksFor count) then .transaction tag else s.pool[b].owner := by
  unfold State.admitted
  dsimp only
  split
  · rw [Pool.store_owner, Pool.setOwner_get]
    split <;> rfl
  · rw [Pool.setOwner_get]
    split <;> rfl

/-- An accepted access keeps the account: its tag is in no other use, and its blocks were free (R104 to R107, R110). -/
theorem State.LedgerInvariant.admitted (h : s.LedgerInvariant) (room : s.owed < 48) {tag : Byte} (fresh : tag ∉ s.tags)
    (kind : AccessKind) {k : SlotNo} (offset : Nat) {count : Nat} (data : List Word) (range : 1 ≤ count ∧ count ≤ 32)
    (capacity : s.refuseAccess k count = none) : (s.admitted tag kind k offset count data).LedgerInvariant := by
  obtain ⟨_, table, lane, enough⟩ := State.refuseAccess_eq_none.mp capacity
  have blocks_free : ∀ b ∈ s.pool.freeBlocks.take (blocksFor count), s.pool[b].owner = .free := fun b hb =>
    (Pool.mem_freeBlocks _ _).mp (List.mem_of_mem_take hb)
  have unheld : ∀ b ∈ s.pool.freeBlocks.take (blocksFor count), b ∉ s.heldBlocks := fun b hb =>
    (h.pool.free b).mp (blocks_free b hb)
  have nodup : (s.pool.freeBlocks.take (blocksFor count)).Nodup := s.pool.freeBlocks_nodup.sublist (List.take_sublist _ _)
  have held : (s.admitted tag kind k offset count data).heldBlocks.Perm
      (s.pool.freeBlocks.take (blocksFor count) ++ s.heldBlocks) := by
    simp only [State.heldBlocks, State.admitted, List.flatMap_append, List.flatMap_singleton]
    rw [← List.append_assoc]
    exact List.perm_append_comm.append_right _
  have owner (b : BlockNo) (hb : b ∈ s.heldBlocks) :
      (s.admitted tag kind k offset count data).pool[b].owner = s.pool[b].owner := by
    rw [State.admitted_owner, if_neg fun mine => unheld b mine hb]
  refine ⟨⟨h.link.requests, ?_, ?_⟩, ⟨?_, fun j => ?_, ?_, ?_⟩, ⟨?_, fun b => ?_, ?_, fun r hr b hb => ?_⟩⟩
  · simp only [State.owed, State.admitted, List.length_append, List.length_cons, List.length_nil] at room ⊢
    omega
  · have tags : (s.admitted tag kind k offset count data).tags = s.tags ++ [tag] := by
      simp [State.tags, State.admitted]
    rw [tags, List.nodup_append]
    exact ⟨h.link.tags, by simp, fun a ha b hb => by
      rw [List.mem_singleton.mp hb]; exact fun same => fresh (same ▸ ha)⟩
  · simp only [State.admitted, List.length_append, List.length_cons, List.length_nil]
    omega
  · have old := h.table.lanes j
    simp only [State.laneQueue, State.admitted, List.filter_append, List.length_append] at old lane ⊢
    by_cases same : k = j
    · subst same
      simp
      omega
    · simpa [same] using old
  · intro t ht
    rcases List.mem_append.mp ht with old | new
    · exact h.table.counts t old
    · rw [List.mem_singleton.mp new]; exact range
  · intro t ht
    rcases List.mem_append.mp ht with old | new
    · exact h.table.blocks t old
    · rw [List.mem_singleton.mp new]
      exact (List.length_take).trans (Nat.min_eq_left enough)
  · rw [held.nodup_iff, List.nodup_append]
    exact ⟨nodup, h.pool.once, fun a ha b hb same => unheld a ha (same ▸ hb)⟩
  · rw [State.admitted_owner, held.mem_iff, List.mem_append]
    by_cases mine : b ∈ s.pool.freeBlocks.take (blocksFor count)
    · simp [mine]
    · simpa [mine] using h.pool.free b
  · intro t ht b hb
    rcases List.mem_append.mp ht with old | new
    · rw [owner b (List.mem_append_left _ (List.mem_flatMap.mpr ⟨t, old, hb⟩))]
      exact h.pool.transactions t old b hb
    · obtain rfl := List.mem_singleton.mp new
      rw [State.admitted_owner, if_pos hb]
  · rw [owner b (List.mem_append_right _ (List.mem_flatMap.mpr ⟨r, hr, hb⟩))]
    exact h.pool.replies r hr b hb

/-! ## The serving of a request (R149) -/

/-- The head leaves the Host Request Queue (R149). -/
theorem State.LedgerInvariant.dropHead (h : s.LedgerInvariant) : s.dropHead.LedgerInvariant := by
  have tags : s.dropHead.tags.Sublist s.tags := ((List.tail_sublist _).map _).append (List.Sublist.refl _)
  refine ⟨⟨?_, h.link.owed, h.link.tags.sublist tags⟩,
    ⟨h.table.table, h.table.lanes, h.table.counts, h.table.blocks⟩,
    ⟨h.pool.once, h.pool.free, h.pool.transactions, h.pool.replies⟩⟩
  exact (List.tail_sublist _).length_le.trans h.link.requests

/-- The tag of the head is in no other use (R147). -/
theorem State.LedgerInvariant.tag_notMem (h : s.LedgerInvariant) {r : HostRequest}
    (head : s.hli.requests.head? = some r) : r.tag ∉ s.dropHead.tags := by
  obtain ⟨rest, requests⟩ : ∃ rest, s.hli.requests = r :: rest := by
    cases queue : s.hli.requests with
    | nil => simp [queue] at head
    | cons x rest => exact ⟨rest, by simpa [queue] using head⟩
  have distinct := h.link.tags
  unfold State.tags at distinct
  rw [requests, List.map_cons, List.cons_append] at distinct
  simpa [State.tags, requests] using (List.nodup_cons.mp distinct).1

theorem State.restart_ledger (h : s.LedgerInvariant) (scope : RestartScope) :
    (s.restart scope).LedgerInvariant ∧ (s.restart scope).owed = s.owed := by
  obtain ⟨kept, owed⟩ := h.abortQueues slotNumbers
  unfold State.restart
  generalize slotNumbers.foldl (fun s k => s.abortQueue k) s = aborted at kept owed ⊢
  exact ⟨kept.congr rfl rfl rfl rfl, (State.owed_congr rfl rfl).trans owed⟩

@[simp] theorem State.setParams_hli (p : Params) : (s.setParams p).hli = s.hli := by
  unfold State.setParams
  dsimp only
  split <;> rfl

@[simp] theorem State.setParams_transactions (p : Params) : (s.setParams p).transactions = s.transactions := by
  unfold State.setParams
  dsimp only
  split <;> rfl

@[simp] theorem State.setParams_pool (p : Params) : (s.setParams p).pool = s.pool := by
  unfold State.setParams
  dsimp only
  split <;> rfl

theorem State.Serves.ledger {t : State} {r : HostRequest} {q : Request} (serves : s.Serves r q t)
    (h : s.LedgerInvariant) (room : s.owed < 48) (fresh : r.tag ∉ s.tags) : t.LedgerInvariant := by
  have plain {u : State} (kept : u.LedgerInvariant) (owed : u.owed = s.owed) {status : Status} {fields : ReplyFields}
      (layout : ∀ g n blocks, fields ≠ .data g n blocks) : (u.answer r status fields).LedgerInvariant :=
    kept.answer (owed ▸ room) r status (noBlocks_of_ne_data layout)
  have same (u : State) (requests : u.hli.requests = s.hli.requests) (replies : u.hli.replies = s.hli.replies)
      (transactions : u.transactions = s.transactions) (pool : u.pool = s.pool) {status : Status} {fields : ReplyFields}
      (layout : ∀ g n blocks, fields ≠ .data g n blocks) : (u.answer r status fields).LedgerInvariant :=
    plain (h.congr requests replies transactions pool) (State.owed_congr replies transactions) layout
  cases serves with
  | answered _ status fields noBlocks => exact h.answer room r status noBlocks
  | params f p _ =>
    exact same (s.setParams p) (by rw [State.setParams_hli]) (by rw [State.setParams_hli])
      (State.setParams_transactions p) (State.setParams_pool p) (by simp)
  | restarted _ scope => exact plain (s.restart_ledger h scope).1 (s.restart_ledger h scope).2 (by simp)
  | redefined _ c => exact same (s.redefineClass c) rfl rfl rfl rfl (by simp)
  | created f c _ _ _ =>
    have kept := s.addClass_keepsTraffic c
    exact same _ (by rw [kept.hli]) (by rw [kept.hli]) kept.transactions kept.pool (by simp)
  | dropped code _ => exact same (s.dropClass code) rfl rfl rfl rfl (by simp)
  | committed =>
    have kept := s.commit_keepsTraffic .requested
    exact same _ (by rw [kept.hli]) (by rw [kept.hli]) kept.transactions kept.pool (by simp)
  | acknowledged => refine same _ ?_ ?_ ?_ ?_ (by simp) <;> rfl
  | resent => refine same _ ?_ ?_ ?_ ?_ (by simp) <;> rfl
  | enabled => refine same _ ?_ ?_ ?_ ?_ (by simp) <;> rfl
  | linkCleared => refine same _ ?_ ?_ ?_ ?_ (by simp) <;> rfl
  | laneCleared => refine same _ ?_ ?_ ?_ ?_ (by simp) <;> rfl
  | probed _ k _ =>
    have worked := ((State.Works.endTenure s k .slotReset).trans (State.enterProbing_works _ k)).ledger h
    exact plain worked.1 worked.2 (by simp)
  | released _ k _ =>
    exact ((State.advance_works _ k).ledger (same (s.modSlot k _) rfl rfl rfl rfl (by simp))).1
  | accepted _ kind view address count offset k data range _ capacity =>
    rw [State.accept_eq]
    exact ((State.advance_works _ k).ledger (h.admitted room fresh kind offset data range capacity)).1
  | withdrawn _ t present _ =>
    have ended := (State.endCancelled_works present .notSent).ledger h
    exact ((State.advance_works _ _).ledger (plain ended.1 ended.2 (by simp))).1
  | cancelled _ t _ _ =>
    have marked := (State.Works.mark s t.tag .cancelling).ledger h
    exact ((State.cancelExchange_works _ _).ledger (plain marked.1 marked.2 (by simp))).1

/-! ## The events of the Host Link (R120, R147, R152) -/

/-- A good frame whose tag is in no use joins the Host Request Queue while it has room (R147). -/
theorem State.LedgerInvariant.arrive (h : s.LedgerInvariant) (r : HostRequest) : (s.arrive r).LedgerInvariant := by
  have refused (status : Status) : (s.refuse r status).LedgerInvariant := by
    unfold State.refuse
    split
    · exact h.congr rfl rfl rfl rfl
    · exact h.congr rfl rfl rfl rfl
  unfold State.arrive
  split
  · exact refused _
  next free =>
    split
    · exact refused _
    next room =>
      have room : s.hli.requests.length < 16 := by simpa [Config.requestCapacity] using room
      have tags : (State.tags { s with hli := { s.hli with requests := s.hli.requests ++ [r] } }).Perm
          (r.tag :: s.tags) := by
        simp only [State.tags, List.map_append, List.map_cons, List.map_nil, List.append_assoc]
        exact List.perm_middle
      have unused : r.tag ∉ s.tags := by
        simp only [State.tagInUse, Bool.or_eq_true, List.any_eq_true, beq_iff_eq, not_or] at free
        rw [State.tags, List.mem_append, not_or, List.mem_map, List.mem_map]
        exact free
      refine ⟨⟨?_, h.link.owed, tags.nodup_iff.mpr (List.nodup_cons.mpr ⟨unused, h.link.tags⟩)⟩,
        ⟨h.table.table, h.table.lanes, h.table.counts, h.table.blocks⟩,
        ⟨h.pool.once, h.pool.free, h.pool.transactions, h.pool.replies⟩⟩
      simp only [List.length_append, List.length_cons, List.length_nil]
      omega

theorem State.LedgerInvariant.takeHostByte (h : s.LedgerInvariant) (b : Byte) : (s.takeHostByte b).LedgerInvariant := by
  unfold State.takeHostByte
  split
  · exact h.congr rfl rfl rfl rfl
  · exact h.congr rfl rfl rfl rfl
  · unfold State.judgeHostFrame
    dsimp only
    split
    · have counted : State.LedgerInvariant
          ((s.setReceiver .hunting).countLink fun c => { c with goodFrames := bump c.goodFrames }) :=
        h.congr rfl rfl rfl rfl
      exact counted.arrive _
    · exact h.congr rfl rfl rfl rfl

/-- A reply that has been sent leaves the queue, and its blocks are free (R120, R152). -/
theorem State.LedgerInvariant.replySent (h : s.LedgerInvariant) : s.replySent.LedgerInvariant := by
  unfold State.replySent
  split
  · exact h
  next r rest replies =>
    have held : s.heldBlocks.Perm (r.blocks ++ (s.transactions.flatMap Transaction.blocks ++ rest.flatMap Reply.blocks)) := by
      rw [State.heldBlocks, replies, List.flatMap_cons, ← List.append_assoc, ← List.append_assoc]
      exact List.perm_append_comm.append_right _
    have once := List.nodup_append.mp (held.nodup_iff.mp h.pool.once)
    have own : ∀ b ∈ r.blocks, s.pool[b].owner = .reply := h.pool.replies r (by simp [replies])
    have owed := h.link.owed
    refine ⟨⟨h.link.requests, ?_, h.link.tags⟩, ⟨h.table.table, h.table.lanes, h.table.counts, h.table.blocks⟩,
      ⟨once.2.1, fun b => ?_, fun t ht b hb => ?_, fun q hq b hb => ?_⟩⟩
    · simp only [State.owed, replies, List.length_cons] at owed ⊢
      omega
    · rw [Pool.setOwner_get]
      by_cases mine : b ∈ r.blocks
      · simp only [mine, if_true, true_iff]
        exact fun other => once.2.2 b mine b other rfl
      · have old := h.pool.free b
        rw [held.mem_iff, List.mem_append] at old
        simpa [mine, State.heldBlocks] using old
    · have owner := h.pool.transactions t ht b hb
      have other : b ∉ r.blocks := fun mine => by rw [own b mine] at owner; cases owner
      rw [Pool.setOwner_get, if_neg other]
      exact owner
    · have other : b ∉ r.blocks := fun mine =>
        once.2.2 b mine b (List.mem_append_right _ (List.mem_flatMap.mpr ⟨q, hq, hb⟩)) rfl
      rw [Pool.setOwner_get, if_neg other]
      exact h.pool.replies q (by simp [replies, hq]) b hb

theorem State.LedgerInvariant.hostFrameSent (h : s.LedgerInvariant) (source : FrameSource) :
    (s.hostFrameSent source).LedgerInvariant := by
  have idle : State.LedgerInvariant { s with hli := { s.hli with sending := none } } := h.congr rfl rfl rfl rfl
  unfold State.hostFrameSent
  dsimp only
  split
  · exact h.congr rfl rfl rfl rfl
  · exact idle.replySent.congr rfl rfl rfl rfl
  · exact h.congr rfl rfl rfl rfl
  · exact h.congr rfl rfl rfl rfl

theorem State.Happens.ledger {u : State} {c : Instr} (happens : s.Happens c u) (h : s.LedgerInvariant) :
    u.LedgerInvariant := by
  cases happens with
  | hostByteReceived line _ => exact h.takeHostByte _
  | gapTimerExpiry => exact h.congr rfl rfl rfl rfl
  | hostFrameSent f _ => exact h.hostFrameSent _
  | presenceRise => exact h.congr rfl rfl rfl rfl
  | presenceLoss k _ => exact ((s.losePresence_works k).ledger h).1
  | settlePeriodExpiry k _ => exact ((s.enterProbing_works k).ledger h).1
  | laneByteReceived k line _ => exact ((s.takeLaneByte_works k _).ledger h).1
  | laneSilenceTimeout => exact h.congr rfl rfl rfl rfl
  | replyTimeExpiry k x _ _ => exact (((s.replyExpired_works k x).trans (State.advance_works _ k)).ledger h).1
  | laneFrameSent k f _ => exact (((s.frameSent_works k f).trans (State.laneTransmit_works _ k)).ledger h).1

end

/-! ## Every step keeps the account -/

theorem State.LedgerInvariant.transmit {s : State} (h : s.LedgerInvariant) : s.transmit.LedgerInvariant :=
  h.congr s.transmit_requests s.transmit_replies s.transmit_transactions s.transmit_pool

theorem State.powerOn_ledger (pending : List Instr) : (State.powerOn pending).LedgerInvariant where
  link := ⟨by simp [State.powerOn, HostLink.powerOn], by simp [State.owed, State.powerOn, HostLink.powerOn],
    by simp [State.tags, State.powerOn, HostLink.powerOn]⟩
  table := ⟨by simp [State.powerOn], by simp [State.laneQueue, State.powerOn], by simp [State.powerOn],
    by simp [State.powerOn]⟩
  pool := ⟨by simp [State.heldBlocks, State.powerOn, HostLink.powerOn],
    by simp [State.heldBlocks, State.powerOn, HostLink.powerOn, Pool.powerOn], by simp [State.powerOn],
    by simp [State.powerOn, HostLink.powerOn]⟩

theorem exec_ledger {c : Instr} {s t : State} (h : s.LedgerInvariant) (next : exec c s = .next t) :
    t.LedgerInvariant := by
  rcases exec_cases next with rfl | ⟨_, rfl⟩ | ⟨_, _, _, _, _, rfl⟩ | ⟨r, offer, _, rfl⟩ | ⟨_, u, happens, rfl⟩
  · exact h
  · exact State.powerOn_ledger _
  · exact h.congr rfl rfl rfl rfl
  · exact ((State.serve_serves _ r _).ledger h.dropHead offer.room (h.tag_notMem offer.head)).transmit
  · exact (happens.ledger h).transmit

/-- Settles O59: the end of a transaction exchanges an entry for a reply and passes its blocks on, an accepted access takes
free blocks and the tag that has just left the Host Request Queue, and each request is answered or accepted once. -/
theorem ledgerStaysBalanced : Obligations.LedgerStaysBalanced := by
  unfold Obligations.LedgerStaysBalanced
  intro s t h next
  rcases step_cases next with ⟨_, rfl⟩ | ⟨c, rest, _, run⟩
  · exact h
  · exact exec_ledger (s := { s with pending := rest }) (h.congr rfl rfl rfl rfl) run

end Sys2Proof.Machine
end

section
/-! SUPPORT. The Slot Controllers (R59 to R63, R85, R90, R95, R96): what each operation makes of a slot, and the proof that
every step keeps each Slot Controller consistent. -/

namespace Sys2Proof.Machine

-- One proof at a time: many side by side take a thread and its stack each.
set_option Elab.async false

/-! ## A Slot Controller inside a step -/

/-- What an exchange record asks for in a slot state (R85, R87, R90, R94). -/
structure Exchange.Fits (x : Exchange) (st : SlotState) : Prop where
  suits : x.suits st
  sends : 1 ≤ x.sends ∧ x.sends ≤ 4
  cancelled : x.cancelled = true → x.kind.tag?.isSome = true

/-- A Slot Controller inside a step: consistent, except that a PROBING slot may be about to begin its probe. -/
structure Slot.Sound (sl : Slot) : Prop where
  presence : sl.presence = true ↔ sl.state ≠ .empty
  settle : sl.settle.isSome = true ↔ sl.state = .settling
  identity : sl.state = .empty → sl.identity = none
  failures : sl.failures ≤ 8
  failing : sl.state.isFailed = false → sl.failures ≤ 7
  resync : sl.lane.resyncRequired = true → sl.state.participates = true
  exchange : ∀ x, sl.lane.exchange = some x → x.Fits sl.state

/-- What a slot that is neither EMPTY nor SETTLING keeps through its changes of state. -/
structure Slot.Live (sl : Slot) : Prop where
  presence : sl.presence = true
  settle : sl.settle = none

theorem Exchange.suits_first {x : Exchange} (h : x.kind = .probe .first) (st : SlotState) :
    x.suits st ↔ st = .probing := by simp [Exchange.suits, h]

theorem Exchange.suits_other {x : Exchange} (h : x.kind ≠ .probe .first) (st : SlotState) :
    x.suits st ↔ st.participates = true := by simp [Exchange.suits, h]

theorem Slot.Consistent.sound {sl : Slot} (h : sl.Consistent) : sl.Sound :=
  ⟨h.presence, h.settle, h.identity, h.failures, h.failing, h.resync,
    fun x hx => ⟨(h.exchange x hx).1, (h.exchange x hx).2, h.cancelled x hx⟩⟩

/-- A sound slot is consistent once a PROBING one has its probe. -/
theorem Slot.Sound.consistent {sl : Slot} (h : sl.Sound) (probing : sl.state = .probing → sl.lane.exchange ≠ none) :
    sl.Consistent where
  presence := h.presence
  settle := h.settle
  identity := h.identity
  failures := h.failures
  failing := h.failing
  resync := h.resync
  probing := fun state => by
    obtain ⟨x, hx⟩ := Option.ne_none_iff_exists'.mp (probing state)
    have first : x.kind = .probe .first := by
      by_contra other
      have := (Exchange.suits_other other _).mp (h.exchange x hx).suits
      simp [state, SlotState.participates] at this
    rw [hx, Option.map_some, first]
  exchange := fun x hx => ⟨(h.exchange x hx).suits, (h.exchange x hx).sends⟩
  cancelled := fun x hx => (h.exchange x hx).cancelled

theorem SlotState.unjudged_iff (st : SlotState) : st.unjudged = true ↔ st = .empty ∨ st = .settling := by
  cases st <;> simp [SlotState.unjudged]

theorem SlotState.judged_of_participates {st : SlotState} (h : st.participates = true) : st.unjudged = false := by
  cases st <;> simp_all [SlotState.unjudged, SlotState.participates]

theorem SlotState.participates_of_holdsWindow {st : SlotState} (h : st.holdsWindow = true) : st.participates = true := by
  cases st <;> simp_all [SlotState.holdsWindow, SlotState.participates]

theorem Slot.Sound.live {sl : Slot} (h : sl.Sound) (judged : sl.state.unjudged = false) : sl.Live where
  presence := h.presence.mpr fun empty => by simp [empty, SlotState.unjudged] at judged
  settle := by
    cases settle : sl.settle with
    | none => rfl
    | some n =>
      have := h.settle.mp (by rw [settle]; rfl)
      simp [this, SlotState.unjudged] at judged

/-- An outstanding exchange shows that the slot is judged. -/
theorem Exchange.Fits.judged {x : Exchange} {st : SlotState} (h : x.Fits st) : st.unjudged = false := by
  by_cases first : x.kind = .probe .first
  · rw [(Exchange.suits_first first st).mp h.suits]; rfl
  · exact SlotState.judged_of_participates ((Exchange.suits_other first st).mp h.suits)

theorem Exchange.Fits.participates {x : Exchange} {st : SlotState} (h : x.Fits st) (other : x.kind ≠ .probe .first) :
    st.participates = true := (Exchange.suits_other other st).mp h.suits

/-- A live slot enters a state that its exchange suits. -/
theorem Slot.Live.enter {sl : Slot} (h : sl.Live) {st : SlotState} (judged : st.unjudged = false)
    (failures : sl.failures ≤ 8) (failing : st.isFailed = false → sl.failures ≤ 7)
    (exchange : ∀ x, sl.lane.exchange = some x → x.Fits st) : (sl.enter st).Sound where
  presence := by
    simp only [Slot.enter_presence, h.presence, Slot.enter_state, true_iff]
    rintro rfl
    cases judged
  settle := by
    simp only [Slot.enter_settle, h.settle, Slot.enter_state, Option.isSome_none, Bool.false_eq_true, false_iff]
    rintro rfl
    cases judged
  identity := fun empty => by
    rw [Slot.enter_state] at empty
    subst empty
    cases judged
  failures := failures
  failing := failing
  resync := fun h => (Bool.and_eq_true_iff.mp h).2
  exchange := exchange

theorem Slot.Live.enter_idle {sl : Slot} (h : sl.Live) {st : SlotState} (judged : st.unjudged = false)
    (failures : sl.failures ≤ 7) (idle : sl.lane.exchange = none) : (sl.enter st).Sound :=
  h.enter judged (by omega) (fun _ => failures) fun x hx => by rw [idle] at hx; cases hx

/-! ## Changes that leave a slot as good as it was -/

/-- The part of an exchange record that the invariants read. -/
def Exchange.essence (x : Exchange) : ExchangeKind × Nat × Bool × Bool :=
  (x.kind, x.sends, x.cancelled, x.releaseEnded)

/-- Two Slot Controllers that differ only in phases, timers, frames, the receiver, the event answer and the counters. -/
structure Slot.Alike (a b : Slot) : Prop where
  presence : b.presence = a.presence
  state : b.state = a.state
  settle : b.settle = a.settle
  identity : b.identity = a.identity
  failures : b.failures = a.failures
  resync : b.lane.resyncRequired = a.lane.resyncRequired
  exchange : b.lane.exchange.map Exchange.essence = a.lane.exchange.map Exchange.essence

theorem Slot.Alike.refl (sl : Slot) : sl.Alike sl := ⟨rfl, rfl, rfl, rfl, rfl, rfl, rfl⟩

theorem Slot.Alike.trans {a b c : Slot} (h : a.Alike b) (g : b.Alike c) : a.Alike c :=
  ⟨g.presence.trans h.presence, g.state.trans h.state, g.settle.trans h.settle, g.identity.trans h.identity,
    g.failures.trans h.failures, g.resync.trans h.resync, g.exchange.trans h.exchange⟩

/-- The exchange of the other slot, with the same essence. -/
theorem Slot.Alike.exchange_of {a b : Slot} (h : a.Alike b) {x : Exchange} (hx : b.lane.exchange = some x) :
    ∃ y, a.lane.exchange = some y ∧ y.kind = x.kind ∧ y.sends = x.sends ∧ y.cancelled = x.cancelled ∧
      y.releaseEnded = x.releaseEnded := by
  have same := h.exchange
  rw [hx, Option.map_some] at same
  obtain ⟨y, hy, eq⟩ := Option.map_eq_some_iff.mp same.symm
  simp only [Exchange.essence, Prod.mk.injEq] at eq
  exact ⟨y, hy, eq⟩

theorem Exchange.Fits.congr {x y : Exchange} {st : SlotState} (h : y.Fits st) (kind : y.kind = x.kind)
    (sends : y.sends = x.sends) (cancelled : y.cancelled = x.cancelled) : x.Fits st where
  suits := by simpa only [Exchange.suits, kind] using h.suits
  sends := sends ▸ h.sends
  cancelled := by rw [← cancelled, ← kind]; exact h.cancelled

theorem Slot.Alike.sound {a b : Slot} (h : a.Alike b) (sound : a.Sound) : b.Sound where
  presence := by rw [h.presence, h.state]; exact sound.presence
  settle := by rw [h.settle, h.state]; exact sound.settle
  identity := by rw [h.state, h.identity]; exact sound.identity
  failures := by rw [h.failures]; exact sound.failures
  failing := by rw [h.failures, h.state]; exact sound.failing
  resync := by rw [h.resync, h.state]; exact sound.resync
  exchange := fun x hx => by
    obtain ⟨y, hy, kind, sends, cancelled, _⟩ := h.exchange_of hx
    rw [h.state]
    exact (sound.exchange y hy).congr kind sends cancelled

theorem Slot.Alike.none_iff {a b : Slot} (h : a.Alike b) : b.lane.exchange = none ↔ a.lane.exchange = none := by
  rw [← Option.map_eq_none_iff (f := Exchange.essence), h.exchange, Option.map_eq_none_iff]

theorem Slot.Alike.consistent {a b : Slot} (h : a.Alike b) (consistent : a.Consistent) : b.Consistent := by
  refine (h.sound consistent.sound).consistent fun state => ?_
  rw [Ne, h.none_iff]
  have := consistent.probing (h.state ▸ state)
  intro idle
  rw [idle] at this
  cases this

/-- Every Slot Controller is as good as before. -/
def State.SlotsAlike (s t : State) : Prop := ∀ j, (s.slot j).Alike (t.slot j)

theorem State.SlotsAlike.refl (s : State) : s.SlotsAlike s := fun _ => .refl _

theorem State.SlotsAlike.trans {s t u : State} (h : s.SlotsAlike t) (g : t.SlotsAlike u) : s.SlotsAlike u :=
  fun j => (h j).trans (g j)

theorem State.SlotsAlike.of_slots {s t : State} (h : t.slots = s.slots) : s.SlotsAlike t :=
  fun j => (State.slot_congr h j) ▸ .refl _

theorem State.modSlot_alike {s : State} {k : SlotNo} {f : Slot → Slot} (h : (s.slot k).Alike (f (s.slot k))) :
    s.SlotsAlike (s.modSlot k f) := by
  intro j
  by_cases same : j = k
  · subst same
    rw [State.slot_modSlot_self]
    exact h
  · rw [State.slot_modSlot_ne s f same]
    exact .refl _

theorem State.modLane_alike {s : State} {k : SlotNo} {f : Lane → Lane}
    (resync : (f (s.slot k).lane).resyncRequired = (s.slot k).lane.resyncRequired := by rfl)
    (exchange : (f (s.slot k).lane).exchange.map Exchange.essence =
      (s.slot k).lane.exchange.map Exchange.essence := by rfl) : s.SlotsAlike (s.modLane k f) :=
  State.modSlot_alike ⟨rfl, rfl, rfl, rfl, rfl, resync, exchange⟩

theorem State.countLane_alike (s : State) (k : SlotNo) (f : LaneCounters → LaneCounters) :
    s.SlotsAlike (s.countLane k f) := State.modLane_alike (f := fun l => { l with counters := f l.counters })

theorem State.laneTransmit_alike (s : State) (k : SlotNo) : s.SlotsAlike (s.laneTransmit k) := by
  unfold State.laneTransmit
  dsimp only
  split
  · exact .refl s
  · exact State.modLane_alike
  next x _ _ exchange =>
    split
    · exact State.modLane_alike rfl (by rw [exchange]; rfl)
    · exact .refl s
  · exact .refl s

theorem State.frameSent_alike (s : State) (k : SlotNo) (f : LaneSending) :
    s.SlotsAlike (s.modLane k fun l => l.frameSent f) := by
  refine State.modLane_alike ?_ ?_
  · unfold Lane.frameSent
    dsimp only
    split <;> rfl
  · unfold Lane.frameSent
    dsimp only
    split
    · rw [Option.map_map]; rfl
    · rfl
    · rfl

theorem State.ackEvent_alike (s : State) (k : SlotNo) (phase : Bool) (count : LaneCounters → LaneCounters) :
    s.SlotsAlike (s.ackEvent k phase count) :=
  State.SlotsAlike.trans (State.modLane_alike (f := fun l => l.decide true phase)) (State.countLane_alike _ k _)

theorem State.waitEvent_alike (s : State) (k : SlotNo) (phase : Bool) : s.SlotsAlike (s.waitEvent k phase) :=
  State.SlotsAlike.trans (State.modLane_alike (f := fun l => l.decide false phase)) (State.countLane_alike _ k _)

/-- The judgement of an event touches phases, answers and counters of the lane (R97 to R100). -/
theorem State.judgeEvent_alike (s : State) (k : SlotNo) (f : LaneFrame) : s.SlotsAlike (s.judgeEvent k f) := by
  unfold State.judgeEvent
  dsimp only
  split
  · exact s.countLane_alike k _
  · split
    · exact s.waitEvent_alike k _
    · exact s.waitEvent_alike k _
    · split
      · exact s.ackEvent_alike k _ _
      · unfold State.newEvent
        dsimp only
        split
        · exact s.ackEvent_alike k _ _
        · split
          · exact s.ackEvent_alike k _ _
          · split
            · exact s.ackEvent_alike k _ _
            · split
              next number _ _ _ =>
                have accepted : s.SlotsAlike
                    { s with au := s.au.append (.event number k f.argument s.pe.generation f.payload) } := .of_slots rfl
                exact accepted.trans (State.ackEvent_alike _ k _ _)
              · exact s.waitEvent_alike k _

/-! ## The slots of the part inside a step of one of them -/

/-- The slot of the step is sound, the others are consistent. -/
structure State.SoundAt (s : State) (k : SlotNo) : Prop where
  self : (s.slot k).Sound
  others : ∀ j, j ≠ k → (s.slot j).Consistent

theorem State.SoundAt.of_all {s : State} (all : ∀ j, (s.slot j).Consistent) (k : SlotNo) : s.SoundAt k :=
  ⟨(all k).sound, fun j _ => all j⟩

theorem State.SoundAt.alike {s t : State} {k : SlotNo} (h : s.SoundAt k) (alike : s.SlotsAlike t) : t.SoundAt k :=
  ⟨(alike k).sound h.self, fun j other => (alike j).consistent (h.others j other)⟩

theorem State.SoundAt.congr {s t : State} {k : SlotNo} (h : s.SoundAt k) (slots : t.slots = s.slots) : t.SoundAt k :=
  h.alike (.of_slots slots)

/-- Only the slot of the step has changed. -/
theorem State.SoundAt.of_self {s t : State} {k : SlotNo} (h : ∀ j, j ≠ k → (s.slot j).Consistent)
    (others : ∀ j, j ≠ k → t.slot j = s.slot j) (self : (t.slot k).Sound) : t.SoundAt k :=
  ⟨self, fun j other => (others j other).symm ▸ h j other⟩

theorem State.SoundAt.modSlot {s : State} {k : SlotNo} (h : ∀ j, j ≠ k → (s.slot j).Consistent) {f : Slot → Slot}
    (self : (f (s.slot k)).Sound) : (s.modSlot k f).SoundAt k :=
  .of_self h (fun _ other => State.slot_modSlot_ne s f other) (by rwa [State.slot_modSlot_self])

/-! ## What the operations make of the slot of the step -/

theorem State.slot_leave_ne (s : State) (k : SlotNo) (st : SlotState) {j : SlotNo} (h : j ≠ k) :
    (s.leave k st).slot j = s.slot j := (s.leave_spec k st).others j h

theorem State.slot_enterFailed (s : State) (k : SlotNo) (reason : FailReason) (j : SlotNo) :
    (s.enterFailed k reason).slot j =
      if j = k then Slot.enter { s.slot k with lane := (s.slot k).lane.abandon } (.failed reason) else s.slot j := by
  have rest (u : State) (slots : u.slots = s.slots) :
      (((u.modLane k Lane.abandon).leave k (.failed reason)).post (.slotFailed k reason)).slot j =
        if j = k then Slot.enter { s.slot k with lane := (s.slot k).lane.abandon } (.failed reason) else s.slot j := by
    by_cases same : j = k
    · subst same
      simp [State.slot_congr slots]
    · simp [same, State.slot_leave_ne _ _ _ same, State.slot_modLane_ne _ _ same, State.slot_congr slots]
  unfold State.enterFailed
  dsimp only
  split
  · exact rest _ (s.endTenure_slots k _)
  · exact rest s rfl

theorem State.slot_countFailure (s : State) (k : SlotNo) (j : SlotNo) :
    (s.countFailure k).slot j =
      if j = k then
        if (s.slot k).failures + 1 < s.params.faultThreshold then
          { s.slot k with
            failures := (s.slot k).failures + 1, lane := { (s.slot k).lane with resyncRequired := true } }
        else
          Slot.enter
            { s.slot k with failures := (s.slot k).failures + 1, lane := (s.slot k).lane.abandon }
            (.failed .laneFault)
      else s.slot j := by
  unfold State.countFailure
  dsimp only
  rw [State.slot_modSlot_self]
  by_cases same : j = k
  · subst same
    rw [if_pos rfl]
    split
    next below =>
      have below : (s.slot j).failures + 1 < s.params.faultThreshold := below
      simp [below]
    next reached =>
      have reached : ¬(s.slot j).failures + 1 < s.params.faultThreshold := reached
      simp [State.slot_enterFailed, reached]
  · rw [if_neg same]
    split
    · rw [State.slot_modLane_ne _ _ same, State.slot_modSlot_ne _ _ same]
    · rw [State.slot_enterFailed, if_neg same, State.slot_modSlot_ne _ _ same]

theorem State.withTransaction_slots (s : State) (tag : Byte) (f : State → Transaction → State)
    (each : ∀ t, (f s t).slots = s.slots) : (s.withTransaction tag f).slots = s.slots := by
  unfold State.withTransaction
  split
  · exact each _
  · rfl

theorem State.failAccess_slot (s : State) (k : SlotNo) (tag : Byte) (status : Status) (j : SlotNo) :
    (s.failAccess k tag status).slot j = (s.countFailure k).slot j := by
  have ended : (s.withTransaction tag fun s t => s.endWithout t status).slots = s.slots :=
    s.withTransaction_slots tag _ fun _ => rfl
  have params : (s.withTransaction tag fun s t => s.endWithout t status).params = s.params :=
    (s.withTransaction_keepsFixed tag _ fun _ => ⟨rfl, rfl, rfl, rfl⟩).params
  unfold State.failAccess
  rw [State.slot_countFailure, State.slot_countFailure, State.slot_congr ended, State.slot_congr ended, params]

theorem State.endAccess_slots (s : State) (x : Exchange) (tag : Byte) (f : LaneFrame) :
    (s.endAccess x tag f).slots = s.slots := by
  refine s.withTransaction_slots tag _ fun t => ?_
  split
  · rfl
  · unfold State.completeTransaction
    split
    · rfl
    · split <;> rfl

theorem State.slot_endRelease_self (s : State) (k : SlotNo) (outcome : ReleaseOutcome) :
    (s.endRelease k outcome).slot k = (s.slot k).enter .released := by simp [State.endRelease]

theorem State.slot_endRelease_ne (s : State) (k : SlotNo) (outcome : ReleaseOutcome) {j : SlotNo} (h : j ≠ k) :
    (s.endRelease k outcome).slot j = s.slot j := by
  rw [State.endRelease, State.slot_post, State.slot_leave_ne _ _ _ h]

/-! ## Commits, joins and judgements (R42 to R46, R50, R64) -/

theorem Slot.Sound.of_state {sl : Slot} (h : sl.Sound) {st : SlotState} (old : sl.state.participates = true)
    (new : st.participates = true) : (sl.enter st).Sound := by
  refine (h.live (SlotState.judged_of_participates old)).enter (SlotState.judged_of_participates new) h.failures
    (fun _ => h.failing ?_) fun x hx => ?_
  · revert old
    cases sl.state <;> simp [SlotState.participates, SlotState.isFailed]
  · have fits := h.exchange x hx
    have other : x.kind ≠ .probe .first := fun first => by
      rw [(Exchange.suits_first first _).mp fits.suits] at old
      cases old
    exact ⟨(Exchange.suits_other other _).mpr new, fits.sends, fits.cancelled⟩

/-- A commit changes participating slots only (R50). -/
theorem Slot.commit_of_not_participates {sl : Slot} (h : sl.state.participates = false) (fitted : Bool) :
    sl.commit fitted = sl := by
  unfold Slot.commit
  split
  next state => rw [state] at h; cases h
  next state => rw [state] at h; cases h
  next state => rw [state] at h; cases h
  next => rfl

/-- The state of a participating slot after a commit (R50). -/
theorem Slot.commit_state {sl : Slot} (h : sl.state.participates = true) (fitted : Bool) :
    (sl.commit fitted).state =
      if fitted then (if sl.state.holdsWindow then sl.state else .placed) else .pending .noSpace := by
  unfold Slot.commit
  split
  next state => cases fitted <;> simp [state, SlotState.holdsWindow]
  next state => cases fitted <;> simp [state, SlotState.holdsWindow]
  next state => cases fitted <;> simp [state, SlotState.holdsWindow]
  next hp hq hr =>
    cases state : sl.state with
    | pending r => exact absurd state (hp r)
    | placed => exact absurd state hq
    | draining b => exact absurd state (hr b)
    | _ => rw [state] at h; cases h

theorem Slot.Sound.commit {sl : Slot} (h : sl.Sound) (fitted : Bool) : (sl.commit fitted).Sound := by
  unfold Slot.commit
  split
  next state => exact h.of_state (by rw [state]; rfl) (by split <;> rfl)
  next state =>
    split
    · exact h
    · exact h.of_state (by rw [state]; rfl) rfl
  next state =>
    split
    · exact h
    · have pending : (sl.enter (.pending .noSpace)).Sound := h.of_state (by rw [state]; rfl) rfl
      refine ⟨pending.presence, pending.settle, pending.identity, pending.failures, pending.failing, pending.resync,
        fun x hx => ?_⟩
      obtain ⟨y, hy, rfl⟩ := Option.map_eq_some_iff.mp hx
      exact (pending.exchange y hy).congr rfl rfl rfl
  next => exact h

theorem Slot.Consistent.commit {sl : Slot} (h : sl.Consistent) (fitted : Bool) : (sl.commit fitted).Consistent := by
  by_cases part : sl.state.participates = true
  · refine (h.sound.commit fitted).consistent fun state => ?_
    rw [Slot.commit_state part] at state
    split at state
    · split at state
      · rw [state] at part; cases part
      · cases state
    · cases state
  · rw [Slot.commit_of_not_participates (by simpa using part)]
    exact h

theorem State.SoundAt.commit {s : State} {k : SlotNo} (h : s.SoundAt k) (mark : CommitMark) :
    (s.commit mark).SoundAt k :=
  ⟨by rw [State.slot_commit]; exact h.self.commit _, fun j other => by
    rw [State.slot_commit]
    exact (h.others j other).commit _⟩

section
variable {s : State} {k : SlotNo} (others : ∀ j, j ≠ k → (s.slot j).Consistent) (live : (s.slot k).Live)
  (idle : (s.slot k).lane.exchange = none)
include others live idle

theorem State.join_sound (failures : (s.slot k).failures ≤ 7) : (s.join k).SoundAt k := by
  have waiting : State.SoundAt (s.modSlot k fun sl => sl.enter (.pending .awaitingCommit)) k :=
    .modSlot others (live.enter_idle rfl failures idle)
  have entered : State.SoundAt (s.modSlot k fun sl => sl.enter (.pending .awaitingCommit)).bumpStamp k :=
    waiting.congr rfl
  unfold State.join
  dsimp only
  split
  · have filled (u : State) (slots : u.slots = (s.modSlot k fun sl => sl.enter (.pending .awaitingCommit)).slots) :
        State.SoundAt ((u.modSlot k fun sl => sl.enter .placed).postJoined k .placed) k := by
      have same := waiting.congr slots
      have placed : State.SoundAt (u.modSlot k fun sl => sl.enter .placed) k :=
        .modSlot same.others (same.self.of_state (by rw [State.slot_congr slots, State.slot_modSlot_self]; rfl) rfl)
      exact placed.congr rfl
    exact filled _ rfl
  · split
    · exact entered.congr rfl
    · split
      · exact (entered.commit .automatic).congr rfl
      · exact entered.congr rfl

omit idle in
theorem State.enterFailed_sound (reason : FailReason) (failures : (s.slot k).failures ≤ 8) :
    (s.enterFailed k reason).SoundAt k := by
  refine .of_self others (fun j other => by rw [State.slot_enterFailed, if_neg other]) ?_
  rw [State.slot_enterFailed, if_pos rfl]
  refine Slot.Live.enter (sl := { s.slot k with lane := (s.slot k).lane.abandon }) ⟨live.presence, live.settle⟩ rfl
    failures (fun not => by cases not) fun x hx => ?_
  rw [Lane.abandon_exchange] at hx
  cases hx

theorem State.judge_sound (failures : (s.slot k).failures ≤ 7) (id : Identity) : (s.judge k id).SoundAt k := by
  unfold State.judge
  split
  · exact .modSlot others (live.enter_idle rfl failures idle)
  · split
    · exact State.enterFailed_sound others live _ (by omega)
    · exact State.join_sound others live idle failures

theorem State.newJoin_sound (failures : (s.slot k).failures ≤ 7) (id : Identity) : (s.newJoin k id).SoundAt k := by
  refine State.judge_sound (fun j other => ?_) ?_ ?_ ?_ id
  · rw [State.slot_modSlot_ne _ _ other]
    exact others j other
  · rw [State.slot_modSlot_self]
    exact ⟨live.presence, live.settle⟩
  · rw [State.slot_modSlot_self]
    exact idle
  · rw [State.slot_modSlot_self]
    exact failures

theorem State.resyncIdent_sound (sound : (s.slot k).Sound) (part : (s.slot k).state.participates = true)
    (failures : (s.slot k).failures ≤ 7) (id : Identity) : (s.resyncIdent k id).SoundAt k := by
  unfold State.resyncIdent
  split
  · refine .modSlot others ⟨sound.presence, sound.settle, fun empty => ?_, sound.failures, sound.failing, sound.resync,
      sound.exchange⟩
    have : (s.slot k).state = .empty := empty
    rw [this] at part
    cases part
  · dsimp only
    refine State.newJoin_sound (fun j other => ?_) ?_ ?_ ?_ id
    · rw [State.slot_post, State.slot_leave_ne _ _ _ other, State.slot_endTenure]
      exact others j other
    · rw [State.slot_post, State.slot_leave_self, State.slot_endTenure]
      exact ⟨live.presence, live.settle⟩
    · rw [State.slot_post, State.slot_leave_self, State.slot_endTenure]
      exact idle
    · rw [State.slot_post, State.slot_leave_self, State.slot_endTenure]
      exact failures

theorem State.endRelease_sound (failures : (s.slot k).failures ≤ 7) (outcome : ReleaseOutcome) :
    (s.endRelease k outcome).SoundAt k := by
  refine .of_self others (fun j other => State.slot_endRelease_ne s k outcome other) ?_
  rw [State.slot_endRelease_self]
  exact live.enter_idle rfl failures idle

omit idle in
/-- One more failure of a slot whose exchange has ended (R92, R96): at the latest the eighth reaches Fault Threshold. -/
theorem State.countFailure_sound (sound : (s.slot k).Sound) (part : (s.slot k).state.participates = true)
    (failures : (s.slot k).failures ≤ 7) (params : s.params.InRange) : (s.countFailure k).SoundAt k := by
  refine .of_self others (fun j other => by rw [State.slot_countFailure, if_neg other]) ?_
  rw [State.slot_countFailure, if_pos rfl]
  have threshold := params.faultThreshold
  split
  · refine ⟨sound.presence, sound.settle, sound.identity, ?_, fun _ => ?_, fun _ => part, sound.exchange⟩
    · exact (by omega : (s.slot k).failures + 1 ≤ 8)
    · exact (by omega : (s.slot k).failures + 1 ≤ 7)
  · refine Slot.Live.enter (sl := { s.slot k with failures := _, lane := (s.slot k).lane.abandon })
      ⟨live.presence, live.settle⟩ rfl (by dsimp only; omega) (fun not => by cases not) fun x hx => ?_
    rw [Lane.abandon_exchange] at hx
    cases hx

end

/-! ## The ends of exchanges (R89, R90, R92, R94) -/

/-- A slot whose exchange record has been removed. -/
theorem Slot.Sound.freed {sl : Slot} (h : sl.Sound) {l : Lane} (idle : l.exchange = none)
    (resync : l.resyncRequired = true → sl.state.participates = true) : Slot.Sound { sl with lane := l } :=
  ⟨h.presence, h.settle, h.identity, h.failures, h.failing, resync, fun x hx => by
    rw [show l.exchange = some x from hx] at idle; cases idle⟩

theorem Slot.Sound.failures_le {sl : Slot} (h : sl.Sound) {x : Exchange} (hx : sl.lane.exchange = some x) :
    sl.failures ≤ 7 := by
  refine h.failing ?_
  have fits := h.exchange x hx
  by_cases first : x.kind = .probe .first
  · rw [(Exchange.suits_first first _).mp fits.suits]; rfl
  · have := fits.participates first
    revert this
    cases sl.state <;> simp [SlotState.participates, SlotState.isFailed]

section
variable {s : State} {k : SlotNo} (h : s.SoundAt k) {x : Exchange} (exchange : (s.slot k).lane.exchange = some x)
include h exchange

theorem State.failExchange_sound (params : s.params.InRange) (status : Status) :
    (s.failExchange k x status).SoundAt k := by
  have fits := h.self.exchange x exchange
  have live := h.self.live fits.judged
  have failures := h.self.failures_le exchange
  have freed : (s.modLane k Lane.endUnmatched).SoundAt k :=
    .modSlot h.others (h.self.freed rfl (by simpa using h.self.resync))
  have slot : (s.modLane k Lane.endUnmatched).slot k = { s.slot k with lane := (s.slot k).lane.endUnmatched } :=
    s.slot_modLane_self k _
  have live' : ((s.modLane k Lane.endUnmatched).slot k).Live := by rw [slot]; exact ⟨live.presence, live.settle⟩
  have idle : ((s.modLane k Lane.endUnmatched).slot k).lane.exchange = none := by rw [slot]; rfl
  have failures' : ((s.modLane k Lane.endUnmatched).slot k).failures ≤ 7 := by rw [slot]; exact failures
  have counted (part : (s.slot k).state.participates = true) :
      ((s.modLane k Lane.endUnmatched).countFailure k).SoundAt k :=
    State.countFailure_sound freed.others live' freed.self (by rw [slot]; exact part) failures' params
  unfold State.failExchange
  dsimp only
  split
  · exact State.enterFailed_sound freed.others live' _ (by omega)
  next kind => exact counted (fits.participates (by simp [kind]))
  next tag _ _ kind =>
    have same := State.failAccess_slot (s.modLane k Lane.endUnmatched) k tag status
    have counted := counted (fits.participates (by simp [kind]))
    exact ⟨by rw [same]; exact counted.self, fun j other => by rw [same]; exact counted.others j other⟩
  next tag _ _ kind =>
    have same := State.failAccess_slot (s.modLane k Lane.endUnmatched) k tag status
    have counted := counted (fits.participates (by simp [kind]))
    exact ⟨by rw [same]; exact counted.self, fun j other => by rw [same]; exact counted.others j other⟩
  next kind =>
    split
    · refine .modSlot freed.others (freed.self.freed idle fun _ => ?_)
      rw [slot]
      exact fits.participates (by simp [kind])
    · exact State.endRelease_sound freed.others live' idle failures' _

theorem State.endCancelledExchange_sound (cancelled : x.cancelled = true) : (s.endCancelledExchange k x).SoundAt k := by
  have fits := h.self.exchange x exchange
  have other : x.kind ≠ .probe .first := fun first => by simpa [first, ExchangeKind.tag?] using fits.cancelled cancelled
  have freed : (s.modLane k fun l => { l.endUnmatched with resyncRequired := true }).SoundAt k :=
    .modSlot h.others (h.self.freed rfl fun _ => fits.participates other)
  unfold State.endCancelledExchange
  dsimp only
  split
  · exact freed.congr (State.withTransaction_slots _ _ _ fun _ => rfl)
  · exact freed

theorem State.matchedAnswer_sound (f : LaneFrame) : (s.matchedAnswer k x f).SoundAt k := by
  have fits := h.self.exchange x exchange
  have live := h.self.live fits.judged
  let free : Slot → Slot := fun sl => { sl with failures := 0, lane := sl.lane.endMatched x.kind }
  have slot : (s.modSlot k free).slot k = free (s.slot k) := s.slot_modSlot_self k free
  have freed : (s.modSlot k free).SoundAt k := by
    refine .modSlot h.others ⟨h.self.presence, h.self.settle, h.self.identity, Nat.zero_le _, fun _ => Nat.zero_le _, ?_,
      fun y hy => ?_⟩
    · intro resync
      exact h.self.resync (by simpa [free] using resync)
    · simp [free] at hy
  have live' : ((s.modSlot k free).slot k).Live := by rw [slot]; exact ⟨live.presence, live.settle⟩
  have idle : ((s.modSlot k free).slot k).lane.exchange = none := by rw [slot]; exact Lane.endMatched_exchange _ _
  have failures : ((s.modSlot k free).slot k).failures ≤ 7 := by rw [slot]; exact Nat.zero_le _
  unfold State.matchedAnswer
  change State.SoundAt (match x.kind with
    | .probe .first => (s.modSlot k free).newJoin k f.identity
    | .probe .resync => ((s.modSlot k free).modLane k fun l => { l with resyncRequired := false }).resyncIdent k f.identity
    | .read tag _ _ => (s.modSlot k free).endAccess x tag f
    | .write tag _ _ => (s.modSlot k free).endAccess x tag f
    | .halt => if x.releaseEnded then (s.modSlot k free).modLane k fun l => { l with resyncRequired := true }
      else (s.modSlot k free).endRelease k .confirmed) k
  split
  · exact State.newJoin_sound freed.others live' idle failures _
  next kind =>
    have part : (s.slot k).state.participates = true := fits.participates (by simp [kind])
    have slot' : ((s.modSlot k free).modLane k fun l => { l with resyncRequired := false }).slot k =
        { free (s.slot k) with lane := { (free (s.slot k)).lane with resyncRequired := false } } := by
      rw [State.slot_modLane_self, slot]
    have clear : ((s.modSlot k free).modLane k fun l => { l with resyncRequired := false }).SoundAt k :=
      .modSlot freed.others (freed.self.freed idle fun h => by cases h)
    refine State.resyncIdent_sound clear.others ?_ ?_ clear.self ?_ ?_ _
    · rw [slot']; exact ⟨live.presence, live.settle⟩
    · rw [slot']; exact Lane.endMatched_exchange _ _
    · rw [slot']; exact part
    · rw [slot']; exact Nat.zero_le _
  · exact freed.congr (State.endAccess_slots _ _ _ _)
  · exact freed.congr (State.endAccess_slots _ _ _ _)
  next kind =>
    split
    · refine .modSlot freed.others (freed.self.freed idle fun _ => ?_)
      rw [slot]
      exact fits.participates (by simp [kind])
    · exact State.endRelease_sound freed.others live' idle failures _

end

/-- The exchange of the slot of the step after a count. -/
theorem State.slot_countLane_exchange (s : State) (k : SlotNo) (f : LaneCounters → LaneCounters) :
    ((s.countLane k f).slot k).lane.exchange = (s.slot k).lane.exchange := by rw [State.slot_countLane_self]

theorem State.judgeAnswer_sound {s : State} {k : SlotNo} (h : s.SoundAt k) (params : s.params.InRange) (f : LaneFrame) :
    (s.judgeAnswer k f).SoundAt k := by
  have stale : (s.countLane k fun c => { c with staleAnswers := bump c.staleAnswers }).SoundAt k :=
    h.alike (s.countLane_alike k _)
  unfold State.judgeAnswer
  dsimp only
  split
  · exact stale
  next x exchange =>
    split
    · exact stale
    · split
      · exact stale
      · split
        · exact State.matchedAnswer_sound h exchange f
        · have counted : (s.countLane k fun c => { c with protocolErrors := bump c.protocolErrors }).SoundAt k :=
            h.alike (s.countLane_alike k _)
          unfold State.wrongAnswer
          dsimp only
          split
          next cancelled =>
            refine State.endCancelledExchange_sound (counted.alike (State.countLane_alike _ k _)) ?_ cancelled
            rw [State.slot_countLane_exchange, State.slot_countLane_exchange]
            exact exchange
          · refine State.failExchange_sound counted ?_ params _
            rw [State.slot_countLane_exchange]
            exact exchange

theorem State.judgeFrame_sound {s : State} {k : SlotNo} (h : s.SoundAt k) (params : s.params.InRange)
    (received : List Byte) : (s.judgeFrame k received).SoundAt k := by
  unfold State.judgeFrame
  split
  · exact h.alike (s.countLane_alike k _)
  · split
    · exact h.alike (s.countLane_alike k _)
    · dsimp only
      split
      · exact (h.alike (s.countLane_alike k _)).alike (State.judgeEvent_alike _ k _)
      · exact State.judgeAnswer_sound (h.alike (s.countLane_alike k _)) params _

theorem State.expireCancelled_sound {s : State} {k : SlotNo} (h : s.SoundAt k) {x : Exchange}
    (exchange : (s.slot k).lane.exchange = some x) (cancelled : x.cancelled = true) : (s.expireCancelled k x).SoundAt k :=
  State.endCancelledExchange_sound (h.alike (s.countLane_alike k _))
    ((s.slot_countLane_exchange k _).trans exchange) cancelled

theorem State.replyExpired_sound {s : State} {k : SlotNo} (h : s.SoundAt k) (params : s.params.InRange) {x : Exchange}
    (exchange : (s.slot k).lane.exchange = some x) : (s.replyExpired k x).SoundAt k := by
  unfold State.replyExpired
  split
  next cancelled => exact State.expireCancelled_sound h exchange cancelled
  · split
    next retry =>
      refine .modSlot h.others ⟨h.self.presence, h.self.settle, h.self.identity, h.self.failures, h.self.failing,
        h.self.resync, fun y hy => ?_⟩
      obtain rfl := Option.some.inj hy
      have fits := h.self.exchange x exchange
      have limit := params.retryLimit
      exact ⟨fits.suits, ⟨Nat.le_add_left 1 _, (by omega : x.sends + 1 ≤ 4)⟩, fits.cancelled⟩
    · exact State.failExchange_sound (h.alike (s.countLane_alike k _))
        ((s.slot_countLane_exchange k _).trans exchange) params _

/-! ## The lane goes on (R87) -/

/-- A lane without an exchange begins one that suits its slot, and a PROBING slot gets its probe (R63, R87). -/
theorem State.advance_consistent {s : State} {k : SlotNo} (h : s.SoundAt k) : ∀ j, ((s.advance k).slot j).Consistent := by
  have done {t : State} (sound : t.SoundAt k) (probing : (t.slot k).state = .probing → (t.slot k).lane.exchange ≠ none)
      (j : SlotNo) : ((t.laneTransmit k).slot j).Consistent := by
    refine (t.laneTransmit_alike k j).consistent ?_
    by_cases same : j = k
    · subst same
      exact sound.self.consistent probing
    · exact sound.others j same
  unfold State.advance
  dsimp only
  split
  next busy =>
    exact done h fun _ idle => by rw [idle] at busy; cases busy
  next free =>
    have idle : (s.slot k).lane.exchange = none := by simpa using free
    split
    next kind begins =>
      have started (fits : ∀ st : SlotState, st = (s.slot k).state →
          Exchange.suits ⟨kind, (s.slot k).lane.outboundPhase, 1, true, none, false, false⟩ st) :
          (s.modLane k fun l => l.start kind).SoundAt k :=
        .modSlot h.others ⟨h.self.presence, h.self.settle, h.self.identity, h.self.failures, h.self.failing,
          h.self.resync, fun x hx => by
            obtain rfl := Option.some.inj hx
            exact ⟨fits _ rfl, ⟨Nat.le_refl 1, (by decide : 1 ≤ 4)⟩, fun h => by cases h⟩⟩
      have busy : ((s.modLane k fun l => l.start kind).slot k).lane.exchange ≠ none := by
        rw [State.slot_modLane_self]
        exact Option.some_ne_none _
      rcases s.nextExchange_cases k kind begins with ⟨probing, rfl⟩ | ⟨resync, rfl⟩ | ⟨_, part, t, _, rfl⟩ |
        ⟨_, draining, _, rfl⟩
      · exact done (started fun st same => (Exchange.suits_first rfl st).mpr (same.trans probing)) fun _ => busy
      · refine done ((started fun st same => ?_).alike (State.countLane_alike _ k _)) fun _ => ?_
        · exact (Exchange.suits_other (by simp) st).mpr (same ▸ h.self.resync resync)
        · exact (State.slot_countLane_exchange _ k _).trans_ne busy
      · have started := started fun st same =>
          (Exchange.suits_other (by unfold Transaction.exchangeKind; split <;> simp) st).mpr (same ▸ part)
        unfold Transaction.exchangeKind at started busy ⊢
        split
        next kind => rw [kind] at started busy; exact done (started.congr rfl) fun _ => busy
        next kind => rw [kind] at started busy; exact done (started.congr rfl) fun _ => busy
      · have started := started fun st same =>
          (Exchange.suits_other (by simp) st).mpr (same ▸ by rw [draining]; rfl)
        have halting : State.SoundAt ((s.modLane k fun l => l.start .halt).modSlot k fun sl => sl.enter (.draining true)) k :=
          .modSlot started.others (started.self.of_state (by rw [State.slot_modLane_self, draining]; rfl) rfl)
        refine done halting fun state => ?_
        · change ((State.modSlot _ k fun sl => sl.enter (.draining true)).slot k).state = .probing at state
          rw [State.slot_modSlot_self] at state
          cases state
    next none_begins =>
      refine done h fun probing => ?_
      simp [State.nextExchange, probing] at none_begins

theorem State.enterProbing_consistent {s : State} {k : SlotNo} (others : ∀ j, j ≠ k → (s.slot j).Consistent)
    (presence : (s.slot k).presence = true) : ∀ j, ((s.enterProbing k).slot j).Consistent := by
  refine State.advance_consistent (.of_self others (fun j other => ?_) ?_)
  · rw [State.slot_modSlot_ne _ _ other, State.slot_leave_ne _ _ _ other, State.slot_modLane_ne _ _ other]
  · rw [State.slot_modSlot_self, State.slot_leave_self, State.slot_modLane_self]
    exact ⟨by simp [presence], by simp, by simp, by simp, by simp, by simp, by simp⟩

end Sys2Proof.Machine
end

section
/-! SUPPORT. What every step keeps of the parameters, the reset and the queue of commands, and the proof that every step
keeps each Slot Controller consistent. -/

namespace Sys2Proof.Machine

-- One proof at a time: many side by side take a thread and its stack each.
set_option Elab.async false

/-! ## What a step keeps of the parameters and the reset -/

/-- The serving of a request keeps the queue of commands and lets the part run on; Set Parameters alone changes the
parameters, to values in their ranges, and Set Event Enable alone the map. -/
structure State.Kept (s t : State) (q : Request) : Prop where
  held : t.held = s.held
  pending : t.pending = s.pending
  params : t.params = s.params ∨ ∃ f, q = .setParameters f ∧ t.params.InRange
  enabled : t.au.enabled = s.au.enabled ∨ ∃ first count setting, q = .setEventEnable first count setting

theorem State.KeepsFixed.kept {s t : State} (h : s.KeepsFixed t) (q : Request) : s.Kept t q :=
  ⟨h.held, h.pending, .inl h.params, .inl h.enabled⟩

theorem State.Kept.of_fields {s t : State} {q : Request} (held : t.held = s.held) (pending : t.pending = s.pending)
    (params : t.params = s.params) (enabled : t.au.enabled = s.au.enabled) : s.Kept t q :=
  ⟨held, pending, .inl params, .inl enabled⟩

theorem State.restart_keepsFixed (s : State) (scope : RestartScope) : s.KeepsFixed (s.restart scope) := by
  obtain ⟨held, params, _, _, au, pending, _⟩ := State.abortQueues_keeps slotNumbers s
  unfold State.restart
  dsimp only
  generalize slotNumbers.foldl (fun s k => s.abortQueue k) s = u at *
  exact ⟨held, params, (congrArg AttentionUnit.enabled au :), pending⟩

theorem State.setParams_keeps (s : State) (p : Params) :
    (s.setParams p).held = s.held ∧ (s.setParams p).pending = s.pending ∧ (s.setParams p).au = s.au ∧
      (s.setParams p).slots = s.slots := by
  unfold State.setParams
  dsimp only
  split <;> exact ⟨rfl, rfl, rfl, rfl⟩

theorem AttentionUnit.acknowledge_enabled (au : AttentionUnit) (p : Nat) : (au.acknowledge p).enabled = au.enabled := by
  unfold AttentionUnit.acknowledge AttentionUnit.summarise
  split <;> rfl

theorem State.cancelExchange_keepsFixed (s : State) (k : SlotNo) : s.KeepsFixed (s.cancelExchange k) :=
  (State.cancelExchange_works s k).fixed

theorem State.Serves.kept {s t : State} {r : HostRequest} {q : Request} (serves : s.Serves r q t) : s.Kept t q := by
  cases serves with
  | answered => exact .of_fields rfl rfl rfl rfl
  | params f p passed =>
    obtain ⟨held, pending, au, _⟩ := s.setParams_keeps p
    refine ⟨held, pending, .inr ⟨f, rfl, ?_⟩, .inl (congrArg AttentionUnit.enabled au)⟩
    rw [State.answer_params, State.setParams_params]
    exact (ParamFields.check_eq_some_iff.mp passed).1
  | restarted n scope => exact ((s.restart_keepsFixed scope).trans (State.answer_keepsFixed _ _ _ _)).kept _
  | redefined => exact .of_fields rfl rfl rfl rfl
  | created f c => exact ((s.addClass_keepsTraffic c).fixed.trans (State.answer_keepsFixed _ _ _ _)).kept _
  | dropped => exact .of_fields rfl rfl rfl rfl
  | committed => exact ((s.commit_keepsTraffic _).fixed.trans (State.answer_keepsFixed _ _ _ _)).kept _
  | acknowledged q p => exact .of_fields rfl rfl rfl (s.au.acknowledge_enabled p)
  | resent => exact .of_fields rfl rfl rfl rfl
  | enabled first count setting => exact ⟨rfl, rfl, .inl rfl, .inr ⟨first, count, setting, rfl⟩⟩
  | linkCleared => exact .of_fields rfl rfl rfl rfl
  | laneCleared => exact .of_fields rfl rfl rfl rfl
  | probed q k =>
    exact (((s.endTenure_keepsFixed k _).trans (State.enterProbing_works _ k).fixed).trans
      (State.answer_keepsFixed _ _ _ _)).kept _
  | released q k =>
    exact (((s.modSlot_keepsFixed k _).trans (State.answer_keepsFixed _ _ _ _)).trans (State.advance_keepsFixed _ k)).kept _
  | accepted q kind view address count offset k data => exact (s.accept_keepsFixed _ _ _ _ _ _).kept _
  | withdrawn q t =>
    have ended : s.KeepsFixed (s.endCancelled t .notSent) := ⟨rfl, rfl, rfl, rfl⟩
    exact ((ended.trans (State.answer_keepsFixed _ _ _ _)).trans (State.advance_keepsFixed _ _)).kept _
  | cancelled q t =>
    have marked : s.KeepsFixed (s.setTransactionState t.tag .cancelling) := ⟨rfl, rfl, rfl, rfl⟩
    exact ((marked.trans (State.answer_keepsFixed _ _ _ _)).trans (State.cancelExchange_keepsFixed _ _)).kept _

theorem State.hostFrameSent_slots (s : State) (source : FrameSource) : (s.hostFrameSent source).slots = s.slots := by
  unfold State.hostFrameSent
  cases source with
  | reply =>
    simp only [State.replySent, State.countSinceNotice]
    split <;> rfl
  | _ => rfl

theorem State.hostFrameSent_keepsFixed (s : State) (source : FrameSource) : s.KeepsFixed (s.hostFrameSent source) := by
  unfold State.hostFrameSent
  cases source with
  | reply =>
    simp only [State.replySent, State.countSinceNotice]
    split <;> exact ⟨rfl, rfl, rfl, rfl⟩
  | _ => exact ⟨rfl, rfl, rfl, rfl⟩

theorem State.Happens.fixed {s u : State} {c : Instr} (happens : s.Happens c u) : s.KeepsFixed u := by
  cases happens with
  | hostByteReceived line =>
    have link := s.takeHostByte_linkWork (byteOnLine line)
    exact ⟨link.held, link.params, congrArg AttentionUnit.enabled link.au, link.pending⟩
  | gapTimerExpiry => exact ⟨rfl, rfl, rfl, rfl⟩
  | hostFrameSent f => exact s.hostFrameSent_keepsFixed f.source
  | presenceRise k => exact s.modSlot_keepsFixed k _
  | presenceLoss k => exact s.losePresence_keepsFixed k
  | settlePeriodExpiry k => exact (State.enterProbing_works s k).fixed
  | laneByteReceived k line => exact s.takeLaneByte_keepsFixed k _
  | laneSilenceTimeout k => exact (s.setLaneReceiver_keepsFixed k _).trans (State.countUngood_keepsFixed _ k)
  | replyTimeExpiry k x => exact (s.replyExpired_keepsFixed k x).trans (State.advance_keepsFixed _ k)
  | laneFrameSent k f => exact (s.modLane_keepsFixed k _).trans (State.laneTransmit_laneWork _ k).fixed

/-! ## The Slot Controllers after each kind of step -/

theorem State.SoundAt.consistent {s : State} {k : SlotNo} (h : s.SoundAt k) (state : (s.slot k).state ≠ .probing)
    (j : SlotNo) : (s.slot j).Consistent := by
  by_cases same : j = k
  · subst same
    exact h.self.consistent fun probing => absurd probing state
  · exact h.others j same

theorem Slot.powerOn_consistent : Slot.powerOn.Consistent where
  presence := by simp [Slot.powerOn]
  settle := by simp [Slot.powerOn]
  identity := fun _ => rfl
  failures := by simp [Slot.powerOn]
  failing := fun _ => by simp [Slot.powerOn]
  resync := fun h => by cases h
  probing := fun h => by cases h
  exchange := fun x h => by cases h
  cancelled := fun x h => by cases h

/-- Whatever the slot was doing, a Restart leaves it SETTLING or EMPTY (R82). -/
theorem Slot.restart_consistent (sl : Slot) (settleTime : Nat) : (sl.restart settleTime).Consistent where
  presence := by cases h : sl.presence <;> simp [Slot.restart, h]
  settle := by cases h : sl.presence <;> simp [Slot.restart, h]
  identity := by cases h : sl.presence <;> simp [Slot.restart, h]
  failures := Nat.zero_le _
  failing := fun _ => Nat.zero_le _
  resync := fun h => by cases h
  probing := fun h => by cases p : sl.presence <;> simp [Slot.restart, p] at h
  exchange := fun x h => by cases h
  cancelled := fun x h => by cases h

theorem State.slot_restart (s : State) (scope : RestartScope) (k : SlotNo) :
    (s.restart scope).slot k = (s.slot k).restart s.params.settleTime := by
  obtain ⟨_, params, _, slots, _, _, _⟩ := State.abortQueues_keeps slotNumbers s
  unfold State.restart
  dsimp only
  generalize slotNumbers.foldl (fun s k => s.abortQueue k) s = u at *
  have same : (u.slot k).restart u.params.settleTime = (s.slot k).restart s.params.settleTime := by
    rw [State.slot_congr slots, params]
  simpa [State.slot, State.forgetNotice] using same

/-- An idle slot that is not in EMPTY or PROBING begins a settle period (R61, R81). -/
theorem Slot.beginSettling_consistent {sl : Slot} (failures : sl.failures ≤ 7) (idle : sl.lane.exchange = none)
    (settleTime : Nat) : (sl.beginSettling settleTime).Consistent where
  presence := by simp [Slot.beginSettling]
  settle := by simp [Slot.beginSettling]
  identity := by simp [Slot.beginSettling]
  failures := Nat.le_succ_of_le failures
  failing := fun _ => failures
  resync := fun h => by simp [Slot.beginSettling, SlotState.participates] at h
  probing := fun h => by simp [Slot.beginSettling] at h
  exchange := fun x h => by simp [Slot.beginSettling, idle] at h
  cancelled := fun x h => by simp [Slot.beginSettling, idle] at h

/-- A slot without a judged module has no exchange (R85). -/
theorem Slot.Consistent.idle {sl : Slot} (h : sl.Consistent) (unjudged : sl.state.unjudged = true) :
    sl.lane.exchange = none := by
  by_contra busy
  obtain ⟨x, hx⟩ := Option.ne_none_iff_exists'.mp busy
  have := (h.sound.exchange x hx).judged
  rw [unjudged] at this
  cases this

theorem State.slot_losePresence (s : State) (k j : SlotNo) :
    (s.losePresence k).slot j =
      if j = k then
        { presence := false, state := .empty, settle := none, identity := none, joinCount := (s.slot k).joinCount,
          failures := 0, lane := (s.slot k).lane.quiesce }
      else s.slot j := by
  unfold State.losePresence
  dsimp only
  by_cases same : j = k
  · subst same
    rw [if_pos rfl, State.slot_modSlot_self, State.slot_post, State.slot_leave_self, State.slot_modLane_self,
      State.slot_endTenure]
    rfl
  · rw [if_neg same, State.slot_modSlot_ne _ _ same, State.slot_post, State.slot_leave_ne _ _ _ same,
      State.slot_modLane_ne _ _ same, State.slot_endTenure]

theorem State.losePresence_consistent {s : State} (all : ∀ j, (s.slot j).Consistent) (k j : SlotNo) :
    ((s.losePresence k).slot j).Consistent := by
  rw [State.slot_losePresence]
  split
  · exact
      { presence := by simp, settle := by simp, identity := fun _ => rfl, failures := Nat.zero_le _,
        failing := fun _ => Nat.zero_le _, resync := fun h => (by cases h), probing := fun h => (by cases h),
        exchange := fun x h => (by cases h), cancelled := fun x h => (by cases h) }
  · exact all j

/-! ## Re-judging (R7) -/

/-- A commit leaves the slots that take no part in the layout (R50). -/
theorem State.slot_commit_of_not_participates {s : State} {j : SlotNo} (h : (s.slot j).state.participates = false)
    (mark : CommitMark) : (s.commit mark).slot j = s.slot j := by
  rw [State.slot_commit, Slot.commit_of_not_participates h]

/-- The slot enters the participating set (R43). -/
def State.entered (s : State) (k : SlotNo) : State :=
  (s.modSlot k fun sl => sl.enter (.pending .awaitingCommit)).bumpStamp

/-- A hole becomes the window of a slot (R43). -/
def State.filled (s : State) (hole : Entry) (k : SlotNo) : State :=
  State.modSlot { s with pe := { s.pe with placement := fillHole s.pe.placement hole k } } k fun sl => sl.enter .placed

/-- The join procedure ends in one of three ways: a hole is taken, the slot waits, or the draft is committed (R43 to R46). -/
theorem State.join_cases (s : State) (k : SlotNo) :
    (∃ hole, findHole s.pe.placement (s.slot k).classCode = some hole ∧
      s.join k = ((s.entered k).filled hole k).postJoined k .placed) ∨
    s.join k = (s.entered k).awaitCommit k ∨
    (s.params.joinPolicy = .autoCommit ∧ (s.entered k).nonDisruptive (s.entered k).draftInputs.draft = true ∧
      (windowOf (s.entered k).draftInputs.draft k).isSome = true ∧
      s.join k = ((s.entered k).commit .automatic).postJoined k .placed) := by
  have code : ((s.entered k).slot k).classCode = (s.slot k).classCode := by
    rw [State.entered, State.slot_bumpStamp, State.slot_modSlot_self]
    rfl
  rw [← code]
  unfold State.join
  dsimp only
  split
  next hole found => exact .inl ⟨hole, found, rfl⟩
  next =>
    split
    next => exact .inr (.inl rfl)
    next policy =>
      split
      next fits => exact .inr (.inr ⟨policy, fits.1, fits.2, rfl⟩)
      next => exact .inr (.inl rfl)

@[simp] theorem State.slot_awaitCommit (s : State) (k j : SlotNo) : (s.awaitCommit k).slot j = s.slot j := rfl
@[simp] theorem State.slot_postJoined (s : State) (k : SlotNo) (outcome : JoinOutcome) (j : SlotNo) :
    (s.postJoined k outcome).slot j = s.slot j := rfl

theorem State.slot_entered (s : State) (k j : SlotNo) :
    (s.entered k).slot j = if j = k then (s.slot k).enter (.pending .awaitingCommit) else s.slot j := by
  rw [State.entered, State.slot_bumpStamp, State.slot_modSlot]

theorem State.slot_filled (s : State) (hole : Entry) (k j : SlotNo) :
    (s.filled hole k).slot j = if j = k then (s.slot k).enter .placed else s.slot j :=
  State.slot_modSlot { s with pe := { s.pe with placement := fillHole s.pe.placement hole k } } k j _

theorem State.slot_join_ne {s : State} {k j : SlotNo} (other : j ≠ k) (h : (s.slot j).state.participates = false) :
    (s.join k).slot j = s.slot j := by
  have entered : (s.entered k).slot j = s.slot j := by rw [State.slot_entered, if_neg other]
  rcases s.join_cases k with ⟨hole, _, eq⟩ | eq | ⟨_, _, _, eq⟩
  · rw [eq, State.slot_postJoined, State.slot_filled, if_neg other, entered]
  · rw [eq, State.slot_awaitCommit, entered]
  · rw [eq, State.slot_postJoined, State.slot_commit_of_not_participates (by rw [entered]; exact h), entered]

/-- The joining slot takes part in the layout (R43, R44). -/
theorem State.join_participates (s : State) (k : SlotNo) : ((s.join k).slot k).state.participates = true := by
  have entered : ((s.entered k).slot k).state = .pending .awaitingCommit := by
    rw [State.slot_entered, if_pos rfl, Slot.enter_state]
  rcases s.join_cases k with ⟨hole, _, eq⟩ | eq | ⟨_, _, _, eq⟩
  · rw [eq, State.slot_postJoined, State.slot_filled, if_pos rfl]
    rfl
  · rw [eq, State.slot_awaitCommit, entered]
    rfl
  · rw [eq, State.slot_postJoined, State.slot_commit, Slot.commit_state (by rw [entered]; rfl), entered]
    split <;> rfl

theorem State.slot_judge_ne {s : State} {k j : SlotNo} (other : j ≠ k) (h : (s.slot j).state.participates = false)
    (id : Identity) : (s.judge k id).slot j = s.slot j := by
  unfold State.judge
  split
  · exact State.slot_modSlot_ne _ _ other
  · split
    · rw [State.slot_enterFailed, if_neg other]
    · exact State.slot_join_ne other h

theorem State.judge_not_probing (s : State) (k : SlotNo) (id : Identity) :
    ((s.judge k id).slot k).state ≠ .probing := by
  unfold State.judge
  split
  · rw [State.slot_modSlot_self]
    simp
  · split
    · rw [State.slot_enterFailed, if_pos rfl]
      simp
    · intro probing
      have := s.join_participates k
      rw [probing] at this
      cases this

theorem State.rejudge_consistent {s : State} (all : ∀ j, (s.slot j).Consistent) {k : SlotNo}
    (unknown : (s.slot k).state = .unknownClass) (j : SlotNo) : ((s.rejudge k).slot j).Consistent := by
  have sound := (all k).sound
  have idle : (s.slot k).lane.exchange = none := by
    by_contra busy
    obtain ⟨x, hx⟩ := Option.ne_none_iff_exists'.mp busy
    have suits := (sound.exchange x hx).suits
    by_cases first : x.kind = .probe .first
    · rw [Exchange.suits_first first, unknown] at suits
      cases suits
    · rw [Exchange.suits_other first, unknown] at suits
      cases suits
  unfold State.rejudge
  split
  · refine State.SoundAt.consistent (k := k) ?_ (s.judge_not_probing k _) j
    exact State.judge_sound (fun i _ => all i) (sound.live (by rw [unknown]; rfl)) idle
      (sound.failing (by rw [unknown]; rfl)) _
  · exact all j

theorem State.slot_rejudge_ne {s : State} {k j : SlotNo} (other : j ≠ k) (h : (s.slot j).state.participates = false) :
    (s.rejudge k).slot j = s.slot j := by
  unfold State.rejudge
  split
  · exact State.slot_judge_ne other h _
  · rfl

theorem State.foldl_rejudge_consistent {slots : List SlotNo} (nodup : slots.Nodup) {s : State}
    (all : ∀ j, (s.slot j).Consistent) (unknown : ∀ k ∈ slots, (s.slot k).state = .unknownClass) (j : SlotNo) :
    ((slots.foldl State.rejudge s).slot j).Consistent := by
  induction slots generalizing s with
  | nil => exact all j
  | cons k slots ih =>
    obtain ⟨fresh, nodup⟩ := List.nodup_cons.mp nodup
    refine ih nodup (State.rejudge_consistent all (unknown k List.mem_cons_self)) fun i hi => ?_
    have state := unknown i (List.mem_cons_of_mem k hi)
    rw [State.slot_rejudge_ne (by rintro rfl; exact fresh hi) (by rw [state]; rfl), state]

theorem State.waitingFor_nodup (s : State) (code : Nat) : (s.waitingFor code).Nodup := (List.nodup_finRange 16).filter _

theorem State.state_of_mem_waitingFor {s : State} {code : Nat} {k : SlotNo} (h : k ∈ s.waitingFor code) :
    (s.slot k).state = .unknownClass := by
  simp only [State.waitingFor, List.mem_filter, Bool.and_eq_true, decide_eq_true_eq] at h
  exact h.2.1

theorem State.addClass_consistent {s : State} (all : ∀ j, (s.slot j).Consistent) (c : ClassEntry) (j : SlotNo) :
    ((s.addClass c).slot j).Consistent := by
  let added := State.bumpStamp { s with pe := { s.pe with catalogue := insertByRank c s.pe.catalogue } }
  have slots (i : SlotNo) : (added.slot i).Consistent := all i
  exact State.foldl_rejudge_consistent (added.waitingFor_nodup _) slots (fun _ h => State.state_of_mem_waitingFor h) j

/-! ## Requests and events -/

theorem State.cancelExchange_consistent {s : State} (all : ∀ j, (s.slot j).Consistent) (k j : SlotNo) :
    ((s.cancelExchange k).slot j).Consistent := by
  have old := all k
  have marked : (s.modLane k Lane.cancel).SoundAt k := by
    refine .modSlot (fun i _ => all i) ⟨old.presence, old.settle, old.identity, old.failures, old.failing, old.resync,
      fun x hx => ?_⟩
    obtain ⟨y, hy, rfl⟩ := Option.map_eq_some_iff.mp (show (s.slot k).lane.exchange.map Exchange.cancel = some x from hx)
    have fits := old.sound.exchange y hy
    refine ⟨fits.suits, fits.sends, fun cancelled => ?_⟩
    rcases Bool.or_eq_true_iff.mp cancelled with before | access
    · exact fits.cancelled before
    · exact access
  unfold State.cancelExchange
  dsimp only
  have kept : ∀ i, ((s.modLane k Lane.cancel).slot i).Consistent := fun i => by
    by_cases same : i = k
    · subst same
      refine marked.self.consistent fun probing => ?_
      rw [State.slot_modLane_self] at probing ⊢
      have first := old.probing probing
      intro idle
      rw [Option.map_eq_none_iff.mp idle] at first
      cases first
    · exact marked.others i same
  split
  next x exchange =>
    split
    next ends =>
      exact State.advance_consistent (State.expireCancelled_sound marked exchange (Bool.and_eq_true_iff.mp ends).1) j
    next => exact kept j
  next => exact kept j

theorem State.enterProbing_all {s : State} (all : ∀ j, (s.slot j).Consistent) {k : SlotNo}
    (state : (s.slot k).state ≠ .empty) (j : SlotNo) : ((s.enterProbing k).slot j).Consistent :=
  State.enterProbing_consistent (fun i _ => all i) ((all k).presence.mpr state) j

/-- The serving of a request keeps each Slot Controller consistent. -/
theorem State.Serves.slots {s t : State} {r : HostRequest} {q : Request} (serves : s.Serves r q t)
    (all : ∀ j, (s.slot j).Consistent) (j : SlotNo) : (t.slot j).Consistent := by
  cases serves with
  | answered => exact all j
  | params f p _ =>
    rw [State.slot_answer, State.slot_congr (s.setParams_keeps p).2.2.2]
    exact all j
  | restarted n scope =>
    rw [State.serveRestart, State.slot_answer, State.slot_restart]
    exact Slot.restart_consistent _ _
  | redefined => exact all j
  | created f c =>
    rw [State.slot_answer]
    exact State.addClass_consistent all c j
  | dropped => exact all j
  | committed =>
    rw [State.slot_answer, State.slot_commit]
    exact (all j).commit _
  | acknowledged => exact all j
  | resent => exact all j
  | enabled => exact all j
  | linkCleared => exact all j
  | laneCleared q k =>
    rw [State.slot_answer]
    exact (s.countLane_alike k _ j).consistent (all j)
  | probed q k judged =>
    rw [State.slot_answer]
    refine State.enterProbing_all (fun i => ?_) ?_ j
    · rw [State.slot_endTenure]; exact all i
    · rw [State.slot_endTenure]
      intro empty
      rw [empty] at judged
      cases judged
  | released q k placed =>
    have draining : State.SoundAt (s.modSlot k fun sl => sl.enter (.draining false)) k :=
      .modSlot (fun i _ => all i) ((all k).sound.of_state (by rw [placed]; rfl) rfl)
    refine State.advance_consistent (draining.congr ?_) j
    rfl
  | accepted q kind view address count offset k data =>
    rw [State.accept_eq]
    refine State.advance_consistent ((State.SoundAt.of_all all k).congr ?_) j
    rfl
  | withdrawn q t =>
    refine State.advance_consistent ((State.SoundAt.of_all all t.slot).congr ?_) j
    rfl
  | cancelled q t =>
    refine State.cancelExchange_consistent (fun i => ?_) t.slot j
    exact all i

theorem State.takeLaneByte_consistent {s : State} (all : ∀ j, (s.slot j).Consistent) (params : s.params.InRange)
    (k : SlotNo) (b : Byte) (j : SlotNo) : ((s.takeLaneByte k b).slot j).Consistent := by
  have received (r : LaneReceiver) : s.SlotsAlike (s.setLaneReceiver k r) := State.modLane_alike
  unfold State.takeLaneByte
  split
  · exact all j
  · exact (received _ j).consistent (all j)
  · exact ((received _).trans (State.countLane_alike _ k _) j).consistent (all j)
  · exact State.advance_consistent
      (State.judgeFrame_sound ((State.SoundAt.of_all all k).alike (received _)) params _) j

/-- An event of the part keeps each Slot Controller consistent. -/
theorem State.Happens.slots {s u : State} {c : Instr} (happens : s.Happens c u) (params : s.params.InRange)
    (all : ∀ j, (s.slot j).Consistent) (j : SlotNo) : (u.slot j).Consistent := by
  cases happens with
  | hostByteReceived line =>
    rw [State.slot_congr (s.takeHostByte_linkWork _).slots]
    exact all j
  | gapTimerExpiry => exact all j
  | hostFrameSent f =>
    rw [State.slot_congr (s.hostFrameSent_slots f.source)]
    exact all j
  | presenceRise k state =>
    rw [State.slot_modSlot]
    split
    · exact Slot.beginSettling_consistent ((all k).failing (by rw [state]; rfl)) ((all k).idle (by rw [state]; rfl)) _
    · exact all j
  | presenceLoss k => exact State.losePresence_consistent all k j
  | settlePeriodExpiry k state => exact State.enterProbing_all all (by rw [state]; simp) j
  | laneByteReceived k line => exact State.takeLaneByte_consistent all params k _ j
  | laneSilenceTimeout k =>
    have received : s.SlotsAlike (s.setLaneReceiver k .between) := State.modLane_alike
    exact (received.trans (State.countLane_alike _ k _) j).consistent (all j)
  | replyTimeExpiry k x exchange =>
    exact State.advance_consistent (State.replyExpired_sound (.of_all all k) params exchange) j
  | laneFrameSent k f => exact ((s.frameSent_alike k f).trans (State.laneTransmit_alike _ k) j).consistent (all j)

theorem State.slot_powerOn (pending : List Instr) (k : SlotNo) : (State.powerOn pending).slot k = Slot.powerOn := by
  simp [State.slot, State.powerOn]

theorem State.slot_started (s : State) (rate1 rate0 : Bool) (presence : BitVec 16) (k : SlotNo) :
    (s.started rate1 rate0 presence).slot k =
      if presence.getLsbD k.val then (s.slot k).beginSettling s.params.settleTime else s.slot k := by
  simp [State.slot, State.started]

theorem State.started_consistent {s : State} (powerOn : s = State.powerOn s.pending) (rate1 rate0 : Bool)
    (presence : BitVec 16) (k : SlotNo) : ((s.started rate1 rate0 presence).slot k).Consistent := by
  have slot : s.slot k = Slot.powerOn := by rw [powerOn, State.slot_powerOn]
  rw [State.slot_started, slot]
  split
  · exact Slot.beginSettling_consistent (Nat.zero_le _) rfl _
  · exact Slot.powerOn_consistent

theorem Params.powerOn_inRange : Params.powerOn.InRange := by
  constructor <;> simp [Params.powerOn]

theorem exec_slotsInvariant {c : Instr} {s t : State} (h : s.SlotsInvariant) (next : exec c s = .next t) :
    t.SlotsInvariant := by
  rcases exec_cases next with rfl | ⟨_, rfl⟩ | ⟨rate1, rate0, presence, _, held, rfl⟩ | ⟨r, offer, _, rfl⟩ |
    ⟨running, u, happens, rfl⟩
  · exact h
  · exact ⟨Params.powerOn_inRange, fun _ => rfl, fun k => by rw [State.slot_powerOn]; exact Slot.powerOn_consistent⟩
  · exact ⟨h.params, nofun, State.started_consistent (h.held held) rate1 rate0 presence⟩
  · have serves := State.serve_serves s.dropHead r (decodeRequest r)
    refine ⟨?_, fun held => ?_, fun k => ?_⟩
    · rw [State.transmit_params]
      rcases serves.kept.params with same | ⟨_, _, range⟩
      · rw [same]; exact h.params
      · exact range
    · rw [State.transmit_held, serves.kept.held, State.dropHead_held, offer.running] at held
      cases held
    · rw [State.slot_transmit]
      exact serves.slots h.slots k
  · refine ⟨?_, fun held => ?_, fun k => ?_⟩
    · rw [State.transmit_params, happens.fixed.params]
      exact h.params
    · rw [State.transmit_held, happens.fixed.held, running] at held
      cases held
    · rw [State.slot_transmit]
      exact happens.slots h.params h.slots k

/-- Taking a command off the queue changes no block of the part. -/
theorem State.SlotsInvariant.dequeue {s : State} (h : s.SlotsInvariant) (rest : List Instr) :
    State.SlotsInvariant { s with pending := rest } where
  params := h.params
  held := fun held => by
    have powerOn := h.held held
    generalize s.pending = pending at powerOn
    subst powerOn
    rfl
  slots := h.slots

/-- Settles O57: each Slot Controller is taken through the operations of its step as a sound one, and becomes consistent
again when its lane goes on. -/
theorem slotsStayConsistent : Obligations.SlotsStayConsistent := by
  unfold Obligations.SlotsStayConsistent
  intro s t h next
  rcases step_cases next with ⟨_, rfl⟩ | ⟨c, rest, _, run⟩
  · exact h
  · exact exec_slotsInvariant (h.dequeue rest) run

end Sys2Proof.Machine
end

section
/-! SUPPORT. The lanes with the Transaction Table (R73, R85, R105, R122): what each operation makes of a slot and its Lane
Queue, and the proof that every step keeps them in agreement. -/

namespace Sys2Proof.Machine

-- One proof at a time: many side by side take a thread and its stack each.
set_option Elab.async false

/-! ## One slot with its Lane Queue -/

/-- The lane of a slot and its Lane Queue agree: `State.LanesInvariant` at one slot. -/
structure Slot.Carries (sl : Slot) (queue : List Transaction) : Prop where
  participates : ∀ t ∈ queue, sl.state.participates = true
  oldest : laneOrdered queue
  carried : ∀ x, sl.lane.exchange = some x → ∀ tag, x.kind.tag? = some tag →
    ∃ t ∈ queue, t.tag = tag ∧ x.kind = t.exchangeKind ∧ t.state = if x.cancelled then .cancelling else .inExchange
  carrying : ∀ t ∈ queue, t.state ≠ .waiting → ∃ x, sl.lane.exchange = some x ∧ x.kind.tag? = some t.tag
  halting : ∀ x, sl.lane.exchange = some x → x.kind = .halt → x.releaseEnded = false →
    sl.state = .draining true ∧ queue = []

theorem State.mem_laneQueue {s : State} {k : SlotNo} {t : Transaction} :
    t ∈ s.laneQueue k ↔ t ∈ s.transactions ∧ t.slot = k := by simp [State.laneQueue]

theorem State.lanesInvariant_iff (s : State) : s.LanesInvariant ↔ ∀ k, (s.slot k).Carries (s.laneQueue k) := by
  constructor
  · intro h k
    refine ⟨fun t ht => ?_, h.oldest k, h.carried k, fun t ht => ?_, h.halting k⟩
    · obtain ⟨mem, rfl⟩ := State.mem_laneQueue.mp ht
      exact h.participates t mem
    · obtain ⟨mem, rfl⟩ := State.mem_laneQueue.mp ht
      exact h.carrying t mem
  · intro h
    exact ⟨fun t ht => (h t.slot).participates t (State.mem_laneQueue.mpr ⟨ht, rfl⟩), fun k => (h k).oldest,
      fun k => (h k).carried, fun t ht => (h t.slot).carrying t (State.mem_laneQueue.mpr ⟨ht, rfl⟩), fun k => (h k).halting⟩

theorem laneOrdered_of_waiting {queue : List Transaction} (h : ∀ t ∈ queue, t.state = .waiting) : laneOrdered queue := by
  cases queue with
  | nil => trivial
  | cons t rest => exact fun u hu => h u (List.mem_cons_of_mem t hu)

theorem laneOrdered_sublist {old new : List Transaction} (h : laneOrdered old) (sub : new.Sublist old) :
    laneOrdered new := by
  cases sub with
  | slnil => trivial
  | cons t sub => exact laneOrdered_of_waiting fun u hu => h u (sub.subset hu)
  | cons_cons t sub => exact fun u hu => h u (sub.subset hu)

theorem laneOrdered_append {queue : List Transaction} (h : laneOrdered queue) {t : Transaction}
    (waiting : t.state = .waiting) : laneOrdered (queue ++ [t]) := by
  cases queue with
  | nil => exact nofun
  | cons u rest =>
    intro v hv
    rcases List.mem_append.mp hv with old | new
    · exact h v old
    · rw [List.mem_singleton.mp new, waiting]

/-- A lane without an exchange, all of whose transactions wait (R113). -/
structure Slot.Waits (sl : Slot) (queue : List Transaction) : Prop where
  idle : sl.lane.exchange = none
  waiting : ∀ t ∈ queue, t.state = .waiting
  participates : ∀ t ∈ queue, sl.state.participates = true

theorem Slot.Waits.carries {sl : Slot} {queue : List Transaction} (h : sl.Waits queue) : sl.Carries queue where
  participates := h.participates
  oldest := laneOrdered_of_waiting h.waiting
  carried := fun x hx => by rw [h.idle] at hx; cases hx
  carrying := fun t ht state => absurd (h.waiting t ht) state
  halting := fun x hx => by rw [h.idle] at hx; cases hx

theorem Slot.Waits.nil {sl : Slot} (idle : sl.lane.exchange = none) : sl.Waits [] := ⟨idle, nofun, nofun⟩

/-- A lane that carries no transaction has none in exchange. -/
theorem Slot.Carries.waiting_of_no_tag {sl : Slot} {queue : List Transaction} (h : sl.Carries queue)
    (no_tag : ∀ x, sl.lane.exchange = some x → x.kind.tag? = none) : ∀ t ∈ queue, t.state = .waiting := by
  intro t ht
  by_contra state
  obtain ⟨x, hx, tag⟩ := h.carrying t ht state
  rw [no_tag x hx] at tag
  cases tag

theorem Slot.Carries.waits {sl : Slot} {queue : List Transaction} (h : sl.Carries queue)
    (idle : sl.lane.exchange = none) : sl.Waits queue :=
  ⟨idle, h.waiting_of_no_tag fun x hx => (by rw [idle] at hx; cases hx), h.participates⟩

/-- A slot without a judged module has no transactions and no exchange. -/
theorem Slot.Carries.queue_nil {sl : Slot} {queue : List Transaction} (h : sl.Carries queue)
    (out : sl.state.participates = false) : queue = [] := by
  refine List.eq_nil_iff_forall_not_mem.mpr fun t ht => ?_
  rw [h.participates t ht] at out
  cases out

theorem Slot.Alike.carries {a b : Slot} (h : a.Alike b) {queue : List Transaction} (carries : a.Carries queue) :
    b.Carries queue where
  participates := by rw [h.state]; exact carries.participates
  oldest := carries.oldest
  carried := fun x hx tag htag => by
    obtain ⟨y, hy, kind, _, cancelled, _⟩ := h.exchange_of hx
    obtain ⟨t, ht, same, exchange, state⟩ := carries.carried y hy tag (kind ▸ htag)
    exact ⟨t, ht, same, kind ▸ exchange, cancelled ▸ state⟩
  carrying := fun t ht state => by
    obtain ⟨y, hy, tag⟩ := carries.carrying t ht state
    have busy : b.lane.exchange ≠ none := fun none => by
      rw [h.none_iff.mp none] at hy
      cases hy
    obtain ⟨x, hx⟩ := Option.ne_none_iff_exists'.mp busy
    obtain ⟨z, hz, kind, _⟩ := h.exchange_of hx
    obtain rfl := Option.some.inj (hy.symm.trans hz)
    exact ⟨x, hx, kind ▸ tag⟩
  halting := fun x hx kind open_ => by
    obtain ⟨y, hy, same, _, _, ended⟩ := h.exchange_of hx
    rw [h.state]
    exact carries.halting y hy (same.trans kind) (ended.trans open_)

/-- The release-ended mark is all that a commit changes of an exchange (R75). -/
theorem Slot.commit_exchange (sl : Slot) (fitted : Bool) :
    (sl.commit fitted).lane.exchange = sl.lane.exchange ∨
      (sl.commit fitted).lane.exchange = sl.lane.exchange.map Exchange.endRelease := by
  unfold Slot.commit
  split
  · exact .inl rfl
  · split <;> exact .inl rfl
  · split
    · exact .inl rfl
    · exact .inr rfl
  · exact .inl rfl

theorem Slot.Carries.commit {sl : Slot} {queue : List Transaction} (h : sl.Carries queue) (fitted : Bool) :
    (sl.commit fitted).Carries queue := by
  by_cases part : sl.state.participates = true
  · have exchange_of (x : Exchange) (hx : (sl.commit fitted).lane.exchange = some x) :
        ∃ y, sl.lane.exchange = some y ∧ y.kind = x.kind ∧ y.cancelled = x.cancelled ∧
          (x.releaseEnded = false → y.releaseEnded = false) := by
      rcases sl.commit_exchange fitted with same | ended
      · exact ⟨x, same ▸ hx, rfl, rfl, id⟩
      · obtain ⟨y, hy, rfl⟩ := Option.map_eq_some_iff.mp (ended ▸ hx)
        exact ⟨y, hy, rfl, rfl, fun open_ => (Bool.or_eq_false_iff.mp open_).1⟩
    have part' : (sl.commit fitted).state.participates = true := by
      rw [Slot.commit_state part]
      split
      · split
        · exact part
        · rfl
      · rfl
    refine ⟨fun _ _ => part', h.oldest, fun x hx tag htag => ?_, fun t ht state => ?_, fun x hx kind open_ => ?_⟩
    · obtain ⟨y, hy, kind, cancelled, _⟩ := exchange_of x hx
      obtain ⟨t, ht, same, exchange, state⟩ := h.carried y hy tag (kind ▸ htag)
      exact ⟨t, ht, same, kind ▸ exchange, cancelled ▸ state⟩
    · obtain ⟨y, hy, tag⟩ := h.carrying t ht state
      rcases sl.commit_exchange fitted with same | ended
      · exact ⟨y, same ▸ hy, tag⟩
      · exact ⟨y.endRelease, by rw [ended, hy]; rfl, tag⟩
    · obtain ⟨y, hy, same, _, ended⟩ := exchange_of x hx
      obtain ⟨draining, nil⟩ := h.halting y hy (same.trans kind) (ended open_)
      refine ⟨?_, nil⟩
      cases fitted with
      | true => rw [Slot.commit_state part, draining]; rfl
      | false =>
        exfalso
        have : (sl.commit false).lane.exchange = sl.lane.exchange.map Exchange.endRelease := by
          unfold Slot.commit
          rw [draining]
          rfl
        rw [this, hy] at hx
        obtain rfl := Option.some.inj hx
        have : y.kind = .halt := kind
        simp [Exchange.endRelease, this] at open_
  · rw [Slot.commit_of_not_participates (by simpa using part)]
    exact h

/-! ## What a step of one slot leaves of the others -/

/-- The other slots and their Lane Queues agree as before, and the tags stay distinct. -/
structure State.Aside (s t : State) (k : SlotNo) : Prop where
  slots : ∀ j, j ≠ k → ∀ queue, (s.slot j).Carries queue → (t.slot j).Carries queue
  queues : ∀ j, j ≠ k → t.laneQueue j = s.laneQueue j
  distinct : s.TagsDistinct → t.TagsDistinct

theorem State.laneQueue_congr {s t : State} (h : t.transactions = s.transactions) (k : SlotNo) :
    t.laneQueue k = s.laneQueue k := by rw [State.laneQueue, State.laneQueue, h]

theorem State.Aside.trans {s t u : State} {k : SlotNo} (h : s.Aside t k) (g : t.Aside u k) : s.Aside u k :=
  ⟨fun j other queue carries => g.slots j other queue (h.slots j other queue carries),
    fun j other => (g.queues j other).trans (h.queues j other), fun distinct => g.distinct (h.distinct distinct)⟩

/-- A change that keeps the transactions and the other slots. -/
theorem State.Aside.of_slots {s t : State} {k : SlotNo} (slots : ∀ j, j ≠ k → t.slot j = s.slot j)
    (transactions : t.transactions = s.transactions) : s.Aside t k :=
  ⟨fun j other queue carries => (slots j other).symm ▸ carries, fun j _ => State.laneQueue_congr transactions j,
    fun distinct => by rw [State.TagsDistinct, transactions]; exact distinct⟩

theorem State.Aside.refl (s : State) (k : SlotNo) : s.Aside s k := .of_slots (fun _ _ => rfl) rfl

theorem State.Aside.congr {s t : State} {k : SlotNo} (slots : t.slots = s.slots)
    (transactions : t.transactions = s.transactions) : s.Aside t k :=
  .of_slots (fun j _ => State.slot_congr slots j) transactions

theorem State.modSlot_aside (s : State) (k : SlotNo) (f : Slot → Slot) : s.Aside (s.modSlot k f) k :=
  .of_slots (fun _ other => State.slot_modSlot_ne _ _ other) rfl

theorem State.modLane_aside (s : State) (k : SlotNo) (f : Lane → Lane) : s.Aside (s.modLane k f) k := s.modSlot_aside k _

theorem State.leave_aside (s : State) (k : SlotNo) (st : SlotState) : s.Aside (s.leave k st) k :=
  .of_slots (fun _ other => State.slot_leave_ne _ _ _ other) (by simp)

theorem State.post_aside (s : State) (k : SlotNo) (kind : NoticeKind) : s.Aside (s.post kind) k := .congr rfl rfl

theorem State.commit_aside (s : State) (mark : CommitMark) (k : SlotNo) : s.Aside (s.commit mark) k where
  slots := fun j _ queue carries => by rw [State.slot_commit]; exact carries.commit _
  queues := fun j _ => State.laneQueue_congr (by simp) j
  distinct := fun distinct => by rw [State.TagsDistinct, State.commit_transactions]; exact distinct

theorem State.join_aside (s : State) (k : SlotNo) : s.Aside (s.join k) k := by
  have entered : s.Aside (s.entered k) k := .of_slots (fun j other => by rw [State.slot_entered, if_neg other]) rfl
  rcases s.join_cases k with ⟨hole, _, eq⟩ | eq | ⟨_, _, _, eq⟩
  · rw [eq]
    refine entered.trans (.of_slots (fun j other => ?_) rfl)
    rw [State.slot_postJoined, State.slot_filled, if_neg other]
  · rw [eq]
    exact entered.trans (.congr rfl rfl)
  · rw [eq]
    exact (entered.trans (State.commit_aside _ _ k)).trans (.congr rfl rfl)

/-! ## Ends of transactions in a Lane Queue -/

theorem State.eq_of_tag_eq {s : State} (distinct : s.TagsDistinct) {t u : Transaction} (ht : t ∈ s.transactions)
    (hu : u ∈ s.transactions) (same : t.tag = u.tag) : t = u := List.inj_on_of_nodup_map distinct ht hu same

/-- The end of a transaction takes it out of its own Lane Queue (R107). -/
theorem State.laneQueue_endTransaction (s : State) (t : Transaction) (owner : BlockOwner) (status : Status)
    (fields : ReplyFields) (k : SlotNo) :
    (s.endTransaction t owner status fields).laneQueue k = (s.laneQueue k).filter fun u => !(u.tag == t.tag) := by
  rw [State.laneQueue, State.endTransaction_transactions, List.filter_filter, State.laneQueue, List.filter_filter]
  exact List.filter_congr fun u _ => Bool.and_comm _ _

theorem State.endTransaction_aside {s : State} (distinct : s.TagsDistinct) {t : Transaction} (present : t ∈ s.transactions)
    (owner : BlockOwner) (status : Status) (fields : ReplyFields) :
    s.Aside (s.endTransaction t owner status fields) t.slot where
  slots := fun j _ queue carries => carries
  queues := fun j other => by
    rw [State.laneQueue_endTransaction, List.filter_eq_self]
    intro u hu
    obtain ⟨mem, rfl⟩ := State.mem_laneQueue.mp hu
    by_contra same
    have same : u.tag = t.tag := by simpa using same
    exact other (congrArg Transaction.slot (State.eq_of_tag_eq distinct mem present same))
  distinct := fun distinct => distinct.sublist (List.filter_sublist.map _)

/-- The end of a whole Lane Queue leaves the others (R117, R118). -/
theorem State.EndsAll.aside {s t : State} {k : SlotNo} {f : Transaction → Reply} (h : s.EndsAll t (s.laneQueue k) f)
    (distinct : s.TagsDistinct) : s.Aside t k where
  slots := fun j _ queue carries => by rw [State.slot_congr h.slots]; exact carries
  queues := fun j other => by
    rw [State.laneQueue, h.transactions, List.filter_filter]
    change _ = s.transactions.filter fun t => t.slot == j
    refine List.filter_congr fun u hu => ?_
    by_cases lane : u.slot = j
    · have kept : ((s.laneQueue k).all fun t => !(u.tag == t.tag)) = true := by
        refine List.all_eq_true.mpr fun t ht => ?_
        obtain ⟨mem, rfl⟩ := State.mem_laneQueue.mp ht
        by_contra same
        have same : u.tag = t.tag := by simpa using same
        exact other (lane.symm.trans (congrArg Transaction.slot (State.eq_of_tag_eq distinct hu mem same)))
      rw [kept, Bool.and_true]
    · rw [beq_false_of_ne lane, Bool.false_and]
  distinct := fun distinct => by
    rw [State.TagsDistinct, h.transactions]
    exact distinct.sublist (List.filter_sublist.map _)

theorem State.endTenure_aside {s : State} (distinct : s.TagsDistinct) (k : SlotNo) (status : Status) :
    s.Aside (s.endTenure k status) k := (s.endTenure_spec k status).aside distinct

theorem State.transaction?_eq_some {s : State} (distinct : s.TagsDistinct) {t : Transaction} (present : t ∈ s.transactions) :
    s.transaction? t.tag = some t := by
  cases found : s.transaction? t.tag with
  | none => simpa using List.find?_eq_none.mp found t present
  | some u =>
    rw [State.eq_of_tag_eq distinct (State.mem_of_transaction? found) present (State.tag_of_transaction? found)]

/-- The end of the transaction that holds a tag is the end of the one that carries it. -/
theorem State.withTransaction_eq {s : State} (distinct : s.TagsDistinct) {t : Transaction} (present : t ∈ s.transactions)
    (f : State → Transaction → State) : s.withTransaction t.tag f = f s t := by
  simp only [State.withTransaction, State.transaction?_eq_some distinct present]

/-- The state of a transaction is set where its tag is found (R113, R122). -/
theorem State.laneQueue_setTransactionState (s : State) (tag : Byte) (st : TransactionState) (k : SlotNo) :
    (s.setTransactionState tag st).laneQueue k =
      (s.laneQueue k).map fun t => if t.tag == tag then { t with state := st } else t := by
  rw [State.laneQueue, State.setTransactionState_transactions, List.filter_map, State.laneQueue]
  congr 1
  refine List.filter_congr fun t _ => ?_
  dsimp only [Function.comp_apply]
  split <;> rfl

theorem State.setTransactionState_distinct {s : State} (distinct : s.TagsDistinct) (tag : Byte) (st : TransactionState) :
    (s.setTransactionState tag st).TagsDistinct := by
  have same : (s.setTransactionState tag st).transactions.map Transaction.tag = s.transactions.map Transaction.tag := by
    rw [State.setTransactionState_transactions, List.map_map]
    refine List.map_congr_left fun t _ => ?_
    dsimp only [Function.comp_apply]
    split <;> rfl
  rw [State.TagsDistinct, same]
  exact distinct

theorem State.setTransactionState_aside {s : State} (distinct : s.TagsDistinct) {t : Transaction}
    (present : t ∈ s.transactions) (st : TransactionState) : s.Aside (s.setTransactionState t.tag st) t.slot where
  slots := fun j _ queue carries => carries
  queues := fun j other => by
    rw [State.laneQueue_setTransactionState]
    refine (List.map_congr_left fun u hu => ?_).trans (List.map_id _)
    obtain ⟨mem, rfl⟩ := State.mem_laneQueue.mp hu
    have tag : u.tag ≠ t.tag := fun same =>
      other (congrArg Transaction.slot (State.eq_of_tag_eq distinct mem present same))
    rw [beq_false_of_ne tag]
    rfl
  distinct := fun distinct => State.setTransactionState_distinct distinct _ _

/-! ## The lane goes on (R87) -/

theorem State.laneTransmit_carries {s : State} {k : SlotNo} (h : (s.slot k).Carries (s.laneQueue k)) :
    ((s.laneTransmit k).slot k).Carries ((s.laneTransmit k).laneQueue k) := by
  rw [State.laneQueue_congr (s.laneTransmit_transactions k)]
  exact (s.laneTransmit_alike k k).carries h

theorem State.laneTransmit_aside (s : State) (k : SlotNo) : s.Aside (s.laneTransmit k) k :=
  .of_slots (s.laneTransmit_laneWork k).others (s.laneTransmit_transactions k)

theorem Transaction.exchangeKind_tag? (t : Transaction) : t.exchangeKind.tag? = some t.tag := by
  unfold Transaction.exchangeKind
  split <;> rfl

theorem Transaction.exchangeKind_ne_halt (t : Transaction) : t.exchangeKind ≠ .halt := by
  unfold Transaction.exchangeKind
  split <;> simp

/-- The beginning of the exchange of a transaction marks the transaction, whether it reads or writes (R113). -/
theorem State.exchangeBegun_access (s : State) (k : SlotNo) (t : Transaction) :
    s.exchangeBegun k t.exchangeKind = s.setTransactionState t.tag .inExchange := by
  unfold Transaction.exchangeKind
  split <;> rfl

theorem State.oldestWaiting_mem {s : State} {k : SlotNo} {t : Transaction} (h : s.oldestWaiting k = some t) :
    t ∈ s.laneQueue k := List.mem_of_find?_eq_some h

/-- Where all transactions of a lane wait, the oldest waiting one is the head of the queue. -/
theorem State.laneQueue_of_oldestWaiting {s : State} {k : SlotNo} (waiting : ∀ t ∈ s.laneQueue k, t.state = .waiting)
    {t : Transaction} (oldest : s.oldestWaiting k = some t) : ∃ rest, s.laneQueue k = t :: rest := by
  unfold State.oldestWaiting at oldest
  cases queue : s.laneQueue k with
  | nil => rw [queue] at oldest; cases oldest
  | cons u rest =>
    rw [queue, List.find?_cons_of_pos (by simpa using waiting u (by rw [queue]; exact List.mem_cons_self))] at oldest
    obtain rfl := Option.some.inj oldest
    exact ⟨rest, rfl⟩

theorem State.laneQueue_tags_nodup {s : State} (distinct : s.TagsDistinct) (k : SlotNo) :
    ((s.laneQueue k).map Transaction.tag).Nodup := distinct.sublist ((s.laneQueue_sublist k).map _)

/-- The transaction at the head of a queue of waiting ones enters its exchange (R105, R113). -/
theorem Slot.Waits.start_access {sl : Slot} {t : Transaction} {rest : List Transaction} (h : sl.Waits (t :: rest))
    (tags : ((t :: rest).map Transaction.tag).Nodup) :
    Slot.Carries { sl with lane := sl.lane.start t.exchangeKind }
      ((t :: rest).map fun u => if u.tag == t.tag then { u with state := .inExchange } else u) := by
  have others (u : Transaction) (hu : u ∈ rest) : (u.tag == t.tag) = false := by
    refine beq_false_of_ne fun same => ?_
    exact (List.nodup_cons.mp tags).1 (same ▸ List.mem_map_of_mem hu)
  have queue : ((t :: rest).map fun u => if u.tag == t.tag then { u with state := .inExchange } else u) =
      { t with state := .inExchange } :: rest := by
    rw [List.map_cons, beq_self_eq_true, if_pos rfl]
    congr 1
    refine (List.map_congr_left fun u hu => ?_).trans (List.map_id _)
    rw [others u hu]
    rfl
  rw [queue]
  have part := h.participates t List.mem_cons_self
  refine ⟨fun _ _ => part, fun u hu => h.waiting u (List.mem_cons_of_mem t hu), fun x hx tag htag => ?_,
    fun u hu state => ?_, fun x hx kind => ?_⟩
  · obtain rfl := Option.some.inj hx
    have same : t.tag = tag := Option.some.inj (t.exchangeKind_tag?.symm.trans htag)
    exact ⟨_, List.mem_cons_self, same, rfl, rfl⟩
  · rcases List.mem_cons.mp hu with rfl | old
    · exact ⟨_, rfl, t.exchangeKind_tag?⟩
    · exact absurd (h.waiting u (List.mem_cons_of_mem t old)) state
  · obtain rfl := Option.some.inj hx
    exact absurd kind t.exchangeKind_ne_halt

/-- A lane without an exchange begins a probe (R63, R95). -/
theorem Slot.Waits.start_probe {sl : Slot} {queue : List Transaction} (h : sl.Waits queue) (purpose : ProbePurpose)
    {st : SlotState} {lane : Lane} (exchange : lane.exchange = (sl.lane.start (.probe purpose)).exchange)
    (state : st = sl.state) : Slot.Carries { sl with state := st, lane := lane } queue where
  participates := state ▸ h.participates
  oldest := laneOrdered_of_waiting h.waiting
  carried := fun x hx tag htag => by
    obtain rfl := Option.some.inj (exchange.symm.trans hx)
    cases htag
  carrying := fun t ht busy => absurd (h.waiting t ht) busy
  halting := fun x hx kind => by
    obtain rfl := Option.some.inj (exchange.symm.trans hx)
    cases kind

theorem State.advance_carries {s : State} {k : SlotNo} (distinct : s.TagsDistinct)
    (h : (s.slot k).Carries (s.laneQueue k)) : ((s.advance k).slot k).Carries ((s.advance k).laneQueue k) := by
  unfold State.advance
  dsimp only
  refine State.laneTransmit_carries ?_
  split
  next => exact h
  next free =>
    have waits : (s.slot k).Waits (s.laneQueue k) := h.waits (by simpa using free)
    split
    next kind begins =>
      rcases s.nextExchange_cases k kind begins with ⟨_, rfl⟩ | ⟨_, rfl⟩ | ⟨_, _, t, oldest, rfl⟩ | ⟨_, _, nil, rfl⟩
      · change ((s.modLane k fun l => l.start (.probe .first)).slot k).Carries (s.laneQueue k)
        rw [State.slot_modLane_self]
        exact waits.start_probe .first rfl rfl
      · change ((State.countLane _ k _).slot k).Carries (s.laneQueue k)
        rw [State.slot_countLane_self, State.slot_modLane_self]
        exact waits.start_probe .resync rfl rfl
      · obtain ⟨rest, queue⟩ := State.laneQueue_of_oldestWaiting waits.waiting oldest
        rw [State.exchangeBegun_access, State.laneQueue_setTransactionState, State.slot_setTransactionState,
          State.slot_modLane_self]
        change Slot.Carries _ ((s.laneQueue k).map _)
        have tags := State.laneQueue_tags_nodup distinct k
        rw [queue] at waits tags ⊢
        exact waits.start_access tags
      · change ((State.modSlot _ k fun sl => sl.enter (.draining true)).slot k).Carries (s.laneQueue k)
        rw [State.slot_modSlot_self, State.slot_modLane_self, nil]
        refine ⟨nofun, trivial, fun x hx tag htag => ?_, nofun, fun x hx _ _ => ⟨rfl, rfl⟩⟩
        obtain rfl := Option.some.inj hx
        cases htag
    next => exact h

theorem State.advance_aside {s : State} (distinct : s.TagsDistinct) (k : SlotNo) : s.Aside (s.advance k) k := by
  unfold State.advance
  dsimp only
  refine State.Aside.trans ?_ (State.laneTransmit_aside _ k)
  split
  next => exact .refl s k
  next =>
    split
    next kind begins =>
      refine (s.modLane_aside k fun l => l.start kind).trans ?_
      rcases s.nextExchange_cases k kind begins with ⟨_, rfl⟩ | ⟨_, rfl⟩ | ⟨_, _, t, oldest, rfl⟩ | ⟨_, _, _, rfl⟩
      · exact .refl _ k
      · exact .of_slots (State.exchangeBegun_laneWork _ k _).others rfl
      · obtain ⟨present, rfl⟩ := State.mem_laneQueue.mp (State.oldestWaiting_mem oldest)
        rw [State.exchangeBegun_access]
        exact State.setTransactionState_aside (s := s.modLane t.slot _) distinct present _
      · exact .of_slots (State.exchangeBegun_laneWork _ k _).others rfl
    next => exact .refl s k

end Sys2Proof.Machine
end

section
/-! SUPPORT. The lanes with the Transaction Table, continued: the ends of exchanges, requests and events, and the proof of
the statement about them. -/

namespace Sys2Proof.Machine

-- One proof at a time: many side by side take a thread and its stack each.
set_option Elab.async false

/-! ## Steps of one slot -/

/-- A step of one slot that leaves its lane in agreement with its Lane Queue. -/
structure State.LandsAt (s u : State) (k : SlotNo) : Prop where
  aside : s.Aside u k
  carries : (u.slot k).Carries (u.laneQueue k)

/-- A step of one slot that leaves its lane without an exchange and its transactions waiting. -/
structure State.Frees (s u : State) (k : SlotNo) : Prop where
  aside : s.Aside u k
  waits : (u.slot k).Waits (u.laneQueue k)

theorem State.Frees.lands {s u : State} {k : SlotNo} (h : s.Frees u k) : s.LandsAt u k := ⟨h.aside, h.waits.carries⟩

theorem State.LandsAt.all {s u : State} {k : SlotNo} (h : s.LandsAt u k)
    (all : ∀ j, (s.slot j).Carries (s.laneQueue j)) (j : SlotNo) : (u.slot j).Carries (u.laneQueue j) := by
  by_cases same : j = k
  · subst same
    exact h.carries
  · rw [h.aside.queues j same]
    exact h.aside.slots j same _ (all j)

theorem State.LandsAt.advance {s u : State} {k : SlotNo} (h : s.LandsAt u k) (distinct : s.TagsDistinct) :
    s.LandsAt (u.advance k) k :=
  ⟨h.aside.trans (State.advance_aside (h.aside.distinct distinct) k),
    State.advance_carries (h.aside.distinct distinct) h.carries⟩

theorem State.LandsAt.of_alike {s u : State} {k : SlotNo} (alike : s.SlotsAlike u)
    (transactions : u.transactions = s.transactions) (h : (s.slot k).Carries (s.laneQueue k)) : s.LandsAt u k where
  aside :=
    { slots := fun j _ _ carries => (alike j).carries carries
      queues := fun j _ => State.laneQueue_congr transactions j
      distinct := fun distinct => by rw [State.TagsDistinct, transactions]; exact distinct }
  carries := by
    rw [State.laneQueue_congr transactions]
    exact (alike k).carries h

/-! ## Judgements and failures -/

/-- The lane of a slot is without an exchange and its Lane Queue is empty. -/
structure State.Rests (s : State) (k : SlotNo) : Prop where
  idle : (s.slot k).lane.exchange = none
  queue : s.laneQueue k = []

theorem State.Rests.waits {s : State} {k : SlotNo} (h : s.Rests k) : (s.slot k).Waits (s.laneQueue k) := by
  rw [h.queue]
  exact .nil h.idle

theorem State.join_idle {s : State} {k : SlotNo} (idle : (s.slot k).lane.exchange = none) :
    ((s.join k).slot k).lane.exchange = none := by
  have entered : ((s.entered k).slot k).lane.exchange = none := by rw [State.slot_entered, if_pos rfl]; exact idle
  rcases s.join_cases k with ⟨hole, _, eq⟩ | eq | ⟨_, _, _, eq⟩
  · rw [eq, State.slot_postJoined, State.slot_filled, if_pos rfl]
    exact entered
  · rw [eq, State.slot_awaitCommit]
    exact entered
  · rw [eq, State.slot_postJoined, State.slot_commit]
    rcases Slot.commit_exchange ((s.entered k).slot k) (windowOf (s.entered k).draftInputs.draft k).isSome with same | ended
    · rw [same, entered]
    · rw [ended, entered, Option.map_none]

theorem State.enterFailed_transactions (s : State) (k : SlotNo) (reason : FailReason) :
    (s.enterFailed k reason).transactions =
      if reason = .laneFault then (s.endTenure k .laneFault).transactions else s.transactions := by
  unfold State.enterFailed
  dsimp only
  rw [State.post_transactions, State.leave_transactions, State.modLane_transactions]
  split <;> rfl

theorem State.enterFailed_aside {s : State} (distinct : s.TagsDistinct) (k : SlotNo) (reason : FailReason) :
    s.Aside (s.enterFailed k reason) k := by
  by_cases fault : reason = .laneFault
  · subst fault
    refine (State.endTenure_aside distinct k .laneFault).trans (.of_slots (fun j other => ?_) ?_)
    · rw [State.slot_enterFailed, if_neg other, State.slot_endTenure]
    · rw [State.enterFailed_transactions, if_pos rfl]
  · refine .of_slots (fun j other => ?_) ?_
    · rw [State.slot_enterFailed, if_neg other]
    · rw [State.enterFailed_transactions, if_neg fault]

theorem State.enterFailed_rests {s : State} {k : SlotNo} {reason : FailReason}
    (ends : reason = .laneFault ∨ s.laneQueue k = []) : (s.enterFailed k reason).Rests k := by
  refine ⟨?_, ?_⟩
  · rw [State.slot_enterFailed, if_pos rfl, Slot.enter_exchange]
    exact Lane.abandon_exchange _
  · by_cases fault : reason = .laneFault
    · have same : (s.enterFailed k reason).transactions = (s.endTenure k .laneFault).transactions := by
        rw [State.enterFailed_transactions, if_pos fault]
      rw [State.laneQueue_congr same, State.laneQueue_endTenure]
    · have same : (s.enterFailed k reason).transactions = s.transactions := by
        rw [State.enterFailed_transactions, if_neg fault]
      rw [State.laneQueue_congr same]
      exact ends.resolve_left fault

theorem State.judge_aside {s : State} (distinct : s.TagsDistinct) (k : SlotNo) (id : Identity) :
    s.Aside (s.judge k id) k := by
  unfold State.judge
  split
  · exact s.modSlot_aside k _
  · split
    · exact State.enterFailed_aside distinct k _
    · exact s.join_aside k

theorem State.judge_rests {s : State} {k : SlotNo} (h : s.Rests k) (id : Identity) : (s.judge k id).Rests k := by
  refine ⟨?_, by rw [State.laneQueue_congr (s.judge_keepsTraffic k id).transactions]; exact h.queue⟩
  unfold State.judge
  split
  · rw [State.slot_modSlot_self]
    exact h.idle
  · split
    · exact (State.enterFailed_rests (.inr h.queue)).idle
    · exact State.join_idle h.idle

theorem State.judge_frees {s : State} (distinct : s.TagsDistinct) {k : SlotNo} (h : s.Rests k) (id : Identity) :
    s.Frees (s.judge k id) k := ⟨State.judge_aside distinct k id, (State.judge_rests h id).waits⟩

theorem State.newJoin_frees {s : State} (distinct : s.TagsDistinct) {k : SlotNo} (h : s.Rests k) (id : Identity) :
    s.Frees (s.newJoin k id) k := by
  have recorded := s.modSlot_aside k fun sl => { sl with identity := some id, joinCount := nextJoinCount sl.joinCount }
  have judged := State.judge_frees (recorded.distinct distinct) (k := k) ⟨?_, ?_⟩ id
  · exact ⟨recorded.trans judged.aside, judged.waits⟩
  · rw [State.slot_modSlot_self]
    exact h.idle
  · exact h.queue

theorem State.endRelease_frees {s : State} {k : SlotNo} (h : s.Rests k) (outcome : ReleaseOutcome) :
    s.Frees (s.endRelease k outcome) k := by
  refine ⟨.of_slots (fun j other => State.slot_endRelease_ne _ _ _ other) (s.endRelease_keepsTraffic k outcome).transactions,
    State.Rests.waits ⟨?_, ?_⟩⟩
  · rw [State.slot_endRelease_self]
    exact h.idle
  · rw [State.laneQueue_congr (s.endRelease_keepsTraffic k outcome).transactions]
    exact h.queue

theorem State.resyncIdent_frees {s : State} (distinct : s.TagsDistinct) {k : SlotNo}
    (h : (s.slot k).Waits (s.laneQueue k)) (id : Identity) : s.Frees (s.resyncIdent k id) k := by
  unfold State.resyncIdent
  split
  · refine ⟨s.modSlot_aside k _, ?_⟩
    rw [State.slot_modSlot_self]
    exact ⟨h.idle, h.waiting, h.participates⟩
  · dsimp only
    have left : s.Aside (((s.endTenure k .moduleGone).leave k .probing).post
        (.moduleLeft k (s.slot k).classCode .identityChanged)) k :=
      ((State.endTenure_aside distinct k _).trans (State.leave_aside _ k _)).trans (State.post_aside _ k _)
    have joined := State.newJoin_frees (left.distinct distinct) (k := k) ⟨?_, ?_⟩ id
    · exact ⟨left.trans joined.aside, joined.waits⟩
    · rw [State.slot_post, State.slot_leave_self, State.slot_endTenure]
      exact h.idle
    · have same : (((s.endTenure k .moduleGone).leave k .probing).post
          (.moduleLeft k (s.slot k).classCode .identityChanged)).transactions = (s.endTenure k .moduleGone).transactions := by
        rw [State.post_transactions, State.leave_transactions]
      rw [State.laneQueue_congr same, State.laneQueue_endTenure]

theorem State.countFailure_frees {s : State} (distinct : s.TagsDistinct) {k : SlotNo}
    (h : (s.slot k).Waits (s.laneQueue k)) : s.Frees (s.countFailure k) k := by
  unfold State.countFailure
  dsimp only
  have counted := s.modSlot_aside k fun sl => { sl with failures := sl.failures + 1 }
  split
  · refine ⟨counted.trans (State.modLane_aside _ k _), ?_⟩
    rw [State.slot_modLane_self, State.slot_modSlot_self]
    exact ⟨h.idle, h.waiting, h.participates⟩
  · exact ⟨counted.trans (State.enterFailed_aside (counted.distinct distinct) k _),
      (State.enterFailed_rests (.inl rfl)).waits⟩

/-! ## The end of an access -/

/-- The lane after an exchange that carried no transaction has gone. -/
theorem Slot.Carries.freed {sl after : Slot} {queue : List Transaction} (h : sl.Carries queue) {x : Exchange}
    (exchange : sl.lane.exchange = some x) (no_tag : x.kind.tag? = none) (idle : after.lane.exchange = none)
    (state : after.state = sl.state) : after.Waits queue where
  idle := idle
  waiting := h.waiting_of_no_tag fun y hy => by
    obtain rfl := Option.some.inj (exchange.symm.trans hy)
    exact no_tag
  participates := state ▸ h.participates

/-- The lane after an exchange and the transaction it carried have gone. -/
theorem Slot.Carries.freed_access {sl after : Slot} {queue : List Transaction} (h : sl.Carries queue) {x : Exchange}
    (exchange : sl.lane.exchange = some x) {tag : Byte} (carried : x.kind.tag? = some tag)
    (idle : after.lane.exchange = none) (state : after.state = sl.state) :
    after.Waits (queue.filter fun u => !(u.tag == tag)) where
  idle := idle
  waiting := fun u hu => by
    obtain ⟨mem, other⟩ := List.mem_filter.mp hu
    by_contra busy
    obtain ⟨y, hy, same⟩ := h.carrying u mem busy
    obtain rfl := Option.some.inj (exchange.symm.trans hy)
    obtain rfl := Option.some.inj (carried.symm.trans same)
    simp at other
  participates := fun u hu => state ▸ h.participates u (List.mem_filter.mp hu).1

/-- One transaction ends, perhaps after its words have been stored (R115). -/
def State.EndsOne (s : State) (t : Transaction) (u : State) : Prop :=
  ∃ (v : State) (owner : BlockOwner) (status : Status) (fields : ReplyFields),
    v.slots = s.slots ∧ v.transactions = s.transactions ∧ u = v.endTransaction t owner status fields

/-- Whatever the answer, the end of an access is the end of its transaction, after its words are stored where it has
some (R115, R123). -/
theorem State.endAccess_endsOne (s : State) (x : Exchange) (t : Transaction) (f : LaneFrame) :
    s.EndsOne t (if x.cancelled then s.endCancelled t (.performed f.refusal?) else s.completeTransaction t f) := by
  split
  · exact ⟨s, _, _, _, rfl, rfl, rfl⟩
  · unfold State.completeTransaction
    split
    · exact ⟨s, _, _, _, rfl, rfl, rfl⟩
    · split
      · exact ⟨{ s with pool := s.pool.store t.blocks f.payload }, .reply, .ok, .data t.generation t.count t.blocks,
          rfl, rfl, rfl⟩
      · exact ⟨s, .free, .ok, .generation t.generation, rfl, rfl, rfl⟩

section
variable {s : State} {k : SlotNo} (distinct : s.TagsDistinct) (carries : (s.slot k).Carries (s.laneQueue k))
  {x : Exchange} (exchange : (s.slot k).lane.exchange = some x)
include distinct carries exchange

/-- The end of the transaction of an exchange that has gone from its slot. -/
theorem State.withTransaction_frees {u : State} (aside : s.Aside u k) (transactions : u.transactions = s.transactions)
    (idle : (u.slot k).lane.exchange = none) (state : (u.slot k).state = (s.slot k).state) {tag : Byte}
    (carried : x.kind.tag? = some tag) {f : State → Transaction → State}
    (ends : ∀ t, u.EndsOne t (f u t)) :
    s.Frees (u.withTransaction tag f) k := by
  have distinct' : u.TagsDistinct := aside.distinct distinct
  obtain ⟨t, ht, rfl, _⟩ := carries.carried x exchange tag carried
  obtain ⟨present, rfl⟩ := State.mem_laneQueue.mp ht
  have present' : t ∈ u.transactions := transactions ▸ present
  rw [State.withTransaction_eq distinct' present']
  obtain ⟨v, owner, status, fields, slots, table, eq⟩ := ends t
  rw [eq]
  have stored : u.Aside v t.slot := .congr slots table
  refine ⟨(aside.trans stored).trans
    (State.endTransaction_aside (stored.distinct distinct') (table ▸ present') _ _ _), ?_⟩
  rw [State.laneQueue_endTransaction, State.slot_endTransaction, State.slot_congr slots,
    State.laneQueue_congr (table.trans transactions)]
  exact carries.freed_access exchange carried idle state

theorem State.failExchange_frees (fits : x.Fits (s.slot k).state) (status : Status) :
    s.Frees (s.failExchange k x status) k := by
  have freed := s.modLane_aside k Lane.endUnmatched
  have slot : (s.modLane k Lane.endUnmatched).slot k = { s.slot k with lane := (s.slot k).lane.endUnmatched } :=
    s.slot_modLane_self k _
  have idle : ((s.modLane k Lane.endUnmatched).slot k).lane.exchange = none := by rw [slot]; rfl
  have state : ((s.modLane k Lane.endUnmatched).slot k).state = (s.slot k).state := by rw [slot]
  have waits (no_tag : x.kind.tag? = none) :
      ((s.modLane k Lane.endUnmatched).slot k).Waits ((s.modLane k Lane.endUnmatched).laneQueue k) :=
    carries.freed exchange no_tag idle state
  have access (tag : Byte) (carried : x.kind.tag? = some tag) :
      s.Frees ((s.modLane k Lane.endUnmatched).failAccess k tag status) k := by
    have ended := State.withTransaction_frees distinct carries exchange freed rfl idle state carried
      (f := fun s t => s.endWithout t status) fun t => ⟨_, _, _, _, rfl, rfl, rfl⟩
    have counted := State.countFailure_frees (ended.aside.distinct distinct) ended.waits
    exact ⟨ended.aside.trans counted.aside, counted.waits⟩
  unfold State.failExchange
  dsimp only
  split
  next kind =>
    have probing := (Exchange.suits_first kind _).mp fits.suits
    have nil : (s.modLane k Lane.endUnmatched).laneQueue k = [] := carries.queue_nil (by rw [probing]; rfl)
    exact ⟨freed.trans (State.enterFailed_aside (freed.distinct distinct) k _),
      (State.enterFailed_rests (.inr nil)).waits⟩
  next kind =>
    have counted := State.countFailure_frees (freed.distinct distinct) (waits (by rw [kind]; rfl))
    exact ⟨freed.trans counted.aside, counted.waits⟩
  next kind => exact access _ (by rw [kind]; rfl)
  next kind => exact access _ (by rw [kind]; rfl)
  next kind =>
    split
    · refine ⟨freed.trans (State.modLane_aside _ k _), ?_⟩
      rw [State.slot_modLane_self]
      have waits := waits (by rw [kind]; rfl)
      exact ⟨waits.idle, waits.waiting, waits.participates⟩
    next open_ =>
      have released := State.endRelease_frees (s := s.modLane k Lane.endUnmatched) (k := k)
        ⟨idle, (carries.halting x exchange kind (by simpa using open_)).2⟩ .unconfirmed
      exact ⟨freed.trans released.aside, released.waits⟩

theorem State.endCancelledExchange_frees : s.Frees (s.endCancelledExchange k x) k := by
  have freed := s.modLane_aside k fun l => { l.endUnmatched with resyncRequired := true }
  have slot := s.slot_modLane_self k fun l => { l.endUnmatched with resyncRequired := true }
  unfold State.endCancelledExchange
  dsimp only
  split
  next tag carried =>
    exact State.withTransaction_frees distinct carries exchange freed rfl (by rw [slot]; rfl) (by rw [slot]) carried
      fun t => ⟨_, _, _, _, rfl, rfl, rfl⟩
  next no_tag => exact ⟨freed, carries.freed exchange no_tag (by rw [slot]; rfl) (by rw [slot])⟩

theorem State.matchedAnswer_frees (fits : x.Fits (s.slot k).state) (f : LaneFrame) :
    s.Frees (s.matchedAnswer k x f) k := by
  have freed := s.modSlot_aside k fun sl => { sl with failures := 0, lane := sl.lane.endMatched x.kind }
  have slot := s.slot_modSlot_self k fun sl => { sl with failures := 0, lane := sl.lane.endMatched x.kind }
  unfold State.matchedAnswer
  dsimp only
  generalize hu : s.modSlot k (fun sl => { sl with failures := 0, lane := sl.lane.endMatched x.kind }) = u at *
  have transactions : u.transactions = s.transactions := hu ▸ rfl
  have idle : (u.slot k).lane.exchange = none := by rw [slot]; exact Lane.endMatched_exchange _ _
  have state : (u.slot k).state = (s.slot k).state := by rw [slot]
  have queue : u.laneQueue k = s.laneQueue k := State.laneQueue_congr transactions k
  have waits (no_tag : x.kind.tag? = none) : (u.slot k).Waits (u.laneQueue k) := by
    rw [queue]
    exact carries.freed exchange no_tag idle state
  have access (tag : Byte) (carried : x.kind.tag? = some tag) : s.Frees (u.endAccess x tag f) k :=
    State.withTransaction_frees distinct carries exchange freed transactions idle state carried fun t =>
      u.endAccess_endsOne x t f
  split
  next kind =>
    have probing := (Exchange.suits_first kind _).mp fits.suits
    have nil : s.laneQueue k = [] := carries.queue_nil (by rw [probing]; rfl)
    have joined := State.newJoin_frees (freed.distinct distinct) (k := k) ⟨idle, queue.trans nil⟩ f.identity
    exact ⟨freed.trans joined.aside, joined.waits⟩
  next kind =>
    have waits := waits (by rw [kind]; rfl)
    have clear := u.modLane_aside k fun l => { l with resyncRequired := false }
    have confirmed := State.resyncIdent_frees (clear.distinct (freed.distinct distinct)) (k := k) ?_ f.identity
    · exact ⟨(freed.trans clear).trans confirmed.aside, confirmed.waits⟩
    · rw [State.slot_modLane_self]
      exact ⟨waits.idle, waits.waiting, waits.participates⟩
  next kind => exact access _ (by rw [kind]; rfl)
  next kind => exact access _ (by rw [kind]; rfl)
  next kind =>
    split
    · refine ⟨freed.trans (u.modLane_aside k _), ?_⟩
      rw [State.slot_modLane_self]
      have waits := waits (by rw [kind]; rfl)
      exact ⟨waits.idle, waits.waiting, waits.participates⟩
    next open_ =>
      have released := State.endRelease_frees (s := u) (k := k)
        ⟨idle, queue.trans (carries.halting x exchange kind (by simpa using open_)).2⟩ .confirmed
      exact ⟨freed.trans released.aside, released.waits⟩

end

/-! ## Frames and timers of a lane -/

theorem State.judgeEvent_transactions (s : State) (k : SlotNo) (f : LaneFrame) :
    (s.judgeEvent k f).transactions = s.transactions := by
  unfold State.judgeEvent
  dsimp only
  split
  · rfl
  · split
    · rfl
    · rfl
    · split
      · rfl
      · unfold State.newEvent
        dsimp only
        split
        · rfl
        · split
          · rfl
          · split
            · rfl
            · split <;> rfl

/-- A count on a lane before a step of it. -/
theorem State.LandsAt.of_count {s u : State} {k : SlotNo} {f : LaneCounters → LaneCounters}
    (h : (s.countLane k f).LandsAt u k) : s.LandsAt u k := ⟨(s.modLane_aside k _).trans h.aside, h.carries⟩

section
variable {s : State} {k : SlotNo} (distinct : s.TagsDistinct) (carries : (s.slot k).Carries (s.laneQueue k))
  (sound : (s.slot k).Sound)
include distinct carries sound

omit sound in
theorem State.expireCancelled_lands {x : Exchange} (exchange : (s.slot k).lane.exchange = some x) :
    s.LandsAt (s.expireCancelled k x) k := by
  have tags (c : LaneCounters → LaneCounters) : (s.countLane k c).TagsDistinct := distinct
  have counted (c : LaneCounters → LaneCounters) : ((s.countLane k c).slot k).Carries ((s.countLane k c).laneQueue k) :=
    (s.countLane_alike k c k).carries carries
  exact .of_count (State.endCancelledExchange_frees (tags _) (counted _)
    ((s.slot_countLane_exchange k _).trans exchange)).lands

theorem State.judgeAnswer_lands (f : LaneFrame) : s.LandsAt (s.judgeAnswer k f) k := by
  have stale (c : LaneCounters → LaneCounters) : s.LandsAt (s.countLane k c) k :=
    .of_alike (s.countLane_alike k _) rfl carries
  unfold State.judgeAnswer
  dsimp only
  split
  · exact stale _
  next x exchange =>
    split
    · exact stale _
    · split
      · exact stale _
      · split
        · exact (State.matchedAnswer_frees distinct carries exchange (sound.exchange x exchange) f).lands
        · unfold State.wrongAnswer
          dsimp only
          have counted (c : LaneCounters → LaneCounters) := ((s.countLane_alike k c) k)
          have same (c : LaneCounters → LaneCounters) := (s.slot_countLane_exchange k c).trans exchange
          have tags (c : LaneCounters → LaneCounters) : (s.countLane k c).TagsDistinct := distinct
          split
          · exact .of_count (State.expireCancelled_lands (tags _) ((counted _).carries carries) (same _))
          · exact .of_count (State.failExchange_frees (tags _) ((counted _).carries carries) (same _)
              (((counted _).sound sound).exchange x (same _)) _).lands

theorem State.judgeFrame_lands (received : List Byte) : s.LandsAt (s.judgeFrame k received) k := by
  have ungood : s.LandsAt (s.countUngood k) k := .of_alike (s.countLane_alike k _) rfl carries
  unfold State.judgeFrame
  split
  · exact ungood
  · split
    · exact ungood
    · dsimp only
      have counted (c : LaneCounters → LaneCounters) := ((s.countLane_alike k c) k)
      have tags (c : LaneCounters → LaneCounters) : (s.countLane k c).TagsDistinct := distinct
      split
      · exact .of_count (.of_alike (State.judgeEvent_alike _ k _) (State.judgeEvent_transactions _ k _)
          ((counted _).carries carries))
      · exact .of_count (State.judgeAnswer_lands (tags _) ((counted _).carries carries) ((counted _).sound sound) _)

theorem State.takeLaneByte_lands (b : Byte) : s.LandsAt (s.takeLaneByte k b) k := by
  have received (r : LaneReceiver) : s.SlotsAlike (s.setLaneReceiver k r) := State.modLane_alike
  have tags (r : LaneReceiver) : (s.setLaneReceiver k r).TagsDistinct := distinct
  unfold State.takeLaneByte
  split
  · exact .of_alike (.refl s) rfl carries
  · exact .of_alike (received _) rfl carries
  · exact .of_alike ((received _).trans (State.countLane_alike _ k _)) rfl carries
  · have judged := State.judgeFrame_lands (tags .between) ((received _ k).carries carries) ((received _ k).sound sound)
    exact State.LandsAt.advance ⟨(s.modLane_aside k _).trans (judged _).aside, (judged _).carries⟩ distinct

theorem State.replyExpired_lands {x : Exchange} (exchange : (s.slot k).lane.exchange = some x) :
    s.LandsAt (s.replyExpired k x) k := by
  have counted (c : LaneCounters → LaneCounters) := s.countLane_alike k c k
  have same (c : LaneCounters → LaneCounters) := (s.slot_countLane_exchange k c).trans exchange
  have tags (c : LaneCounters → LaneCounters) : (s.countLane k c).TagsDistinct := distinct
  unfold State.replyExpired
  split
  · exact State.expireCancelled_lands distinct carries exchange
  · split
    · refine ⟨s.modLane_aside k _, ?_⟩
      rw [State.slot_modLane_self]
      refine ⟨carries.participates, carries.oldest, fun y hy tag htag => ?_, fun t ht busy => ?_, fun y hy kind open_ => ?_⟩
      · obtain rfl := Option.some.inj hy
        exact carries.carried x exchange tag htag
      · obtain ⟨y, hy, tag⟩ := carries.carrying t ht busy
        obtain rfl := Option.some.inj (exchange.symm.trans hy)
        exact ⟨_, rfl, tag⟩
      · obtain rfl := Option.some.inj hy
        exact carries.halting x exchange kind open_
    · exact .of_count (State.failExchange_frees (tags _) ((counted _).carries carries) (same _)
        (((counted _).sound sound).exchange x (same _)) _).lands

end

/-! ## Requests -/

theorem State.endTenure_rests {s : State} {k : SlotNo} (status : Status) {u : State}
    (transactions : u.transactions = (s.endTenure k status).transactions) (idle : (u.slot k).lane.exchange = none) :
    u.Rests k := ⟨idle, (State.laneQueue_congr transactions k).trans (s.laneQueue_endTenure k status)⟩

/-- A slot whose Lane Queue is empty begins its FIRST PROBE (R63). -/
theorem State.enterProbing_lands {s : State} (distinct : s.TagsDistinct) {k : SlotNo} (nil : s.laneQueue k = []) :
    s.LandsAt (s.enterProbing k) k := by
  unfold State.enterProbing
  dsimp only
  have left : s.Aside ((s.modLane k Lane.abandon).leave k .probing) k :=
    (s.modLane_aside k _).trans (State.leave_aside _ k _)
  refine State.LandsAt.advance ⟨left.trans (State.modSlot_aside _ k _), Slot.Waits.carries ?_⟩ distinct
  have queue : (((s.modLane k Lane.abandon).leave k .probing).modSlot k fun sl =>
      { sl with settle := none, failures := 0 }).laneQueue k = [] := by
    rw [State.laneQueue_congr (s := s) (by rw [State.modSlot_transactions, State.leave_transactions]; rfl)]
    exact nil
  rw [queue]
  refine .nil ?_
  rw [State.slot_modSlot_self, State.slot_leave_self, State.slot_modLane_self]
  exact Lane.abandon_exchange _

/-- A waiting transaction leaves its Lane Queue (R121). -/
theorem Slot.Carries.withdraw {sl : Slot} {queue : List Transaction} (h : sl.Carries queue)
    (distinct : (queue.map Transaction.tag).Nodup) {t : Transaction} (present : t ∈ queue) (waiting : t.state = .waiting) :
    sl.Carries (queue.filter fun u => !(u.tag == t.tag)) where
  participates := fun u hu => h.participates u (List.mem_filter.mp hu).1
  oldest := laneOrdered_sublist h.oldest List.filter_sublist
  carried := fun x hx tag htag => by
    obtain ⟨u, hu, same, exchange, state⟩ := h.carried x hx tag htag
    refine ⟨u, List.mem_filter.mpr ⟨hu, ?_⟩, same, exchange, state⟩
    have other : u.tag ≠ t.tag := fun tag => by
      rw [List.inj_on_of_nodup_map distinct hu present tag, waiting] at state
      split at state <;> cases state
    simpa using other
  carrying := fun u hu state => h.carrying u (List.mem_filter.mp hu).1 state
  halting := fun x hx kind open_ => by
    obtain ⟨_, nil⟩ := h.halting x hx kind open_
    rw [nil] at present
    cases present

/-- The transaction in exchange and its exchange are marked cancelled together (R122). -/
theorem Slot.Carries.cancel {sl : Slot} {queue : List Transaction} (h : sl.Carries queue)
    (distinct : (queue.map Transaction.tag).Nodup) {t : Transaction} (present : t ∈ queue)
    (exchanging : t.state = .inExchange) :
    Slot.Carries { sl with lane := sl.lane.cancel }
      (queue.map fun u => if u.tag == t.tag then { u with state := .cancelling } else u) := by
  obtain ⟨x, hx, carried⟩ := h.carrying t present (by rw [exchanging]; simp)
  have exchange : Lane.exchange sl.lane.cancel = some x.cancel := by simp [Lane.cancel, hx]
  have mem_iff (v : Transaction) (hv : v ∈ queue.map fun u => if u.tag == t.tag then { u with state := .cancelling } else u) :
      (v = { t with state := .cancelling }) ∨ (v ∈ queue ∧ v.tag ≠ t.tag) := by
    obtain ⟨u, hu, rfl⟩ := List.mem_map.mp hv
    by_cases same : u.tag = t.tag
    · obtain rfl := List.inj_on_of_nodup_map distinct hu present same
      exact .inl (by simp)
    · exact .inr (by simpa [same] using hu)
  have marked : { t with state := .cancelling } ∈
      queue.map fun u => if u.tag == t.tag then { u with state := .cancelling } else u :=
    List.mem_map.mpr ⟨t, present, by simp⟩
  refine ⟨fun v hv => ?_, ?_, fun y hy tag htag => ?_, fun v hv busy => ?_, fun y hy kind _ => ?_⟩
  · exact h.participates t present
  · have oldest := h.oldest
    cases queue with
    | nil => trivial
    | cons head rest =>
      intro v hv
      obtain ⟨u, hu, rfl⟩ := List.mem_map.mp hv
      have state := oldest u hu
      split
      next same =>
        have := List.inj_on_of_nodup_map distinct (List.mem_cons_of_mem head hu) present (by simpa using same)
        rw [this, exchanging] at state
        cases state
      next => exact state
  · obtain rfl := Option.some.inj (exchange.symm.trans hy)
    obtain rfl := Option.some.inj (carried.symm.trans htag)
    obtain ⟨u, hu, same, kind, _⟩ := h.carried x hx t.tag carried
    obtain rfl := List.inj_on_of_nodup_map distinct hu present same
    refine ⟨_, marked, rfl, kind, ?_⟩
    simp [Exchange.cancel, carried]
  · rcases mem_iff v hv with rfl | ⟨old, other⟩
    · exact ⟨_, exchange, carried⟩
    · obtain ⟨y, hy, tag⟩ := h.carrying v old busy
      obtain rfl := Option.some.inj (hx.symm.trans hy)
      exact absurd (Option.some.inj (tag.symm.trans carried)) other
  · obtain rfl := Option.some.inj (exchange.symm.trans hy)
    have kind : x.kind = .halt := kind
    rw [kind] at carried
    cases carried

end Sys2Proof.Machine
end

section
/-! SUPPORT. The lanes with the Transaction Table, concluded: requests, events, Restart, and the proof that every step keeps
them in agreement. -/

namespace Sys2Proof.Machine

-- One proof at a time: many side by side take a thread and its stack each.
set_option Elab.async false

/-! ## Restart (R118) -/

theorem State.EndsAll.trans {s t u : State} {ts us : List Transaction} {f : Transaction → Reply} (h : s.EndsAll t ts f)
    (g : t.EndsAll u us f) : s.EndsAll u (ts ++ us) f where
  held := g.held.trans h.held
  params := g.params.trans h.params
  hli := by rw [g.hli, h.hli, List.map_append, ← List.append_assoc]
  pe := g.pe.trans h.pe
  slots := g.slots.trans h.slots
  transactions := by
    rw [g.transactions, h.transactions, List.filter_filter]
    refine List.filter_congr fun u _ => ?_
    rw [List.all_append, Bool.and_comm]
  pool := by rw [g.pool, h.pool, List.foldl_append]
  au := g.au.trans h.au
  pending := g.pending.trans h.pending

/-- The Lane Queues of different slots end one after another in the order of the slots (R118). -/
theorem State.abortQueues_spec {s : State} (distinct : s.TagsDistinct) {slots : List SlotNo} (nodup : slots.Nodup) :
    s.EndsAll (slots.foldl (fun s k => s.abortQueue k) s) (slots.flatMap s.laneQueue)
      fun t => t.replyWith .aborted (.generation t.generation) := by
  induction slots generalizing s with
  | nil => exact ⟨rfl, rfl, by simp, rfl, rfl, by simp, rfl, rfl, rfl⟩
  | cons k slots ih =>
    obtain ⟨fresh, nodup⟩ := List.nodup_cons.mp nodup
    have first := s.abortQueue_spec k
    have aside := first.aside distinct
    have queues : slots.flatMap (s.abortQueue k).laneQueue = slots.flatMap s.laneQueue :=
      List.flatMap_congr fun j hj => aside.queues j (by rintro rfl; exact fresh hj)
    rw [List.foldl_cons, List.flatMap_cons, ← queues]
    exact first.trans (ih (aside.distinct distinct) nodup)

theorem State.abortQueues_transactions {s : State} (distinct : s.TagsDistinct) :
    (slotNumbers.foldl (fun s k => s.abortQueue k) s).transactions = [] := by
  have ended := State.abortQueues_spec (slots := slotNumbers) distinct (List.nodup_finRange 16)
  rw [ended.transactions]
  refine List.filter_eq_nil_iff.mpr fun t ht all => ?_
  have mem : t ∈ slotNumbers.flatMap s.laneQueue :=
    List.mem_flatMap.mpr ⟨t.slot, mem_slotNumbers t.slot, State.mem_laneQueue.mpr ⟨ht, rfl⟩⟩
  simpa using List.all_eq_true.mp all t mem

theorem State.restart_transactions {s : State} (distinct : s.TagsDistinct) (scope : RestartScope) :
    (s.restart scope).transactions = [] := by
  have none := State.abortQueues_transactions distinct
  unfold State.restart
  generalize slotNumbers.foldl (fun s k => s.abortQueue k) s = u at *
  exact none

theorem State.carries_of_empty {s : State} (empty : s.transactions = []) (idle : ∀ k, (s.slot k).lane.exchange = none)
    (k : SlotNo) : (s.slot k).Carries (s.laneQueue k) := by
  rw [show s.laneQueue k = [] by rw [State.laneQueue, empty]; rfl]
  exact (Slot.Waits.nil (idle k)).carries

theorem State.restart_carries {s : State} (distinct : s.TagsDistinct) (scope : RestartScope) (k : SlotNo) :
    ((s.restart scope).slot k).Carries ((s.restart scope).laneQueue k) :=
  State.carries_of_empty (State.restart_transactions distinct scope) (fun j => by rw [State.slot_restart]; rfl) k

/-! ## Re-judging (R7) -/

theorem Slot.Consistent.idle_of_unknown {sl : Slot} (h : sl.Consistent) (unknown : sl.state = .unknownClass) :
    sl.lane.exchange = none := by
  by_contra busy
  obtain ⟨x, hx⟩ := Option.ne_none_iff_exists'.mp busy
  have suits := (h.sound.exchange x hx).suits
  by_cases first : x.kind = .probe .first
  · rw [Exchange.suits_first first, unknown] at suits
    cases suits
  · rw [Exchange.suits_other first, unknown] at suits
    cases suits

theorem State.rejudge_lands {s : State} (distinct : s.TagsDistinct) {k : SlotNo} (consistent : (s.slot k).Consistent)
    (unknown : (s.slot k).state = .unknownClass) (carries : (s.slot k).Carries (s.laneQueue k)) :
    s.LandsAt (s.rejudge k) k := by
  unfold State.rejudge
  split
  · exact (State.judge_frees distinct
      ⟨consistent.idle_of_unknown unknown, carries.queue_nil (by rw [unknown]; rfl)⟩ _).lands
  · exact ⟨.refl s k, carries⟩

theorem State.foldl_rejudge_carries {slots : List SlotNo} (nodup : slots.Nodup) {s : State} (distinct : s.TagsDistinct)
    (consistent : ∀ j, (s.slot j).Consistent) (unknown : ∀ k ∈ slots, (s.slot k).state = .unknownClass)
    (all : ∀ j, (s.slot j).Carries (s.laneQueue j)) (j : SlotNo) :
    ((slots.foldl State.rejudge s).slot j).Carries ((slots.foldl State.rejudge s).laneQueue j) := by
  induction slots generalizing s with
  | nil => exact all j
  | cons k slots ih =>
    obtain ⟨fresh, nodup⟩ := List.nodup_cons.mp nodup
    have state := unknown k List.mem_cons_self
    have lands := State.rejudge_lands distinct (consistent k) state (all k)
    refine ih nodup (lands.aside.distinct distinct) (State.rejudge_consistent consistent state) (fun i hi => ?_)
      (lands.all all)
    have state := unknown i (List.mem_cons_of_mem k hi)
    rw [State.slot_rejudge_ne (by rintro rfl; exact fresh hi) (by rw [state]; rfl), state]

theorem State.addClass_carries {s : State} (distinct : s.TagsDistinct) (consistent : ∀ j, (s.slot j).Consistent)
    (all : ∀ j, (s.slot j).Carries (s.laneQueue j)) (c : ClassEntry) (j : SlotNo) :
    ((s.addClass c).slot j).Carries ((s.addClass c).laneQueue j) := by
  let added := State.bumpStamp { s with pe := { s.pe with catalogue := insertByRank c s.pe.catalogue } }
  have distinct' : added.TagsDistinct := distinct
  have consistent' (i : SlotNo) : (added.slot i).Consistent := consistent i
  have all' (i : SlotNo) : (added.slot i).Carries (added.laneQueue i) := all i
  exact State.foldl_rejudge_carries (added.waitingFor_nodup _) distinct' consistent'
    (fun _ h => State.state_of_mem_waitingFor h) all' j

/-! ## Requests -/

/-- The reply to a request changes neither slots nor transactions. -/
theorem State.carries_congr {s t : State} (slots : t.slots = s.slots) (transactions : t.transactions = s.transactions)
    (all : ∀ j, (s.slot j).Carries (s.laneQueue j)) (j : SlotNo) : (t.slot j).Carries (t.laneQueue j) := by
  rw [State.slot_congr slots, State.laneQueue_congr transactions]
  exact all j

theorem State.answer_carries {s : State} (all : ∀ j, (s.slot j).Carries (s.laneQueue j)) (r : HostRequest) (status : Status)
    (fields : ReplyFields) (j : SlotNo) :
    ((s.answer r status fields).slot j).Carries ((s.answer r status fields).laneQueue j) :=
  State.carries_congr rfl rfl all j

/-- A transaction joins the tail of the Lane Queue of its PLACED slot (R111). -/
theorem Slot.Carries.accept {sl : Slot} {queue : List Transaction} (h : sl.Carries queue) (placed : sl.state = .placed)
    {t : Transaction} (waiting : t.state = .waiting) : sl.Carries (queue ++ [t]) where
  participates := fun _ _ => by rw [placed]; rfl
  oldest := laneOrdered_append h.oldest waiting
  carried := fun x hx tag htag => by
    obtain ⟨u, hu, rest⟩ := h.carried x hx tag htag
    exact ⟨u, List.mem_append_left _ hu, rest⟩
  carrying := fun u hu state => by
    rcases List.mem_append.mp hu with old | new
    · exact h.carrying u old state
    · rw [List.mem_singleton.mp new] at state
      exact absurd waiting state
  halting := fun x hx kind open_ => by
    obtain ⟨draining, _⟩ := h.halting x hx kind open_
    rw [placed] at draining
    cases draining

/-- The entry of an accepted access (R111). -/
def State.admission (s : State) (tag : Byte) (kind : AccessKind) (k : SlotNo) (offset count : Nat) : Transaction :=
  { tag := tag, kind := kind, slot := k, offset := offset, count := count
    blocks := s.pool.freeBlocks.take (blocksFor count), state := .waiting, generation := s.pe.generation }

theorem State.admitted_transactions (s : State) (tag : Byte) (kind : AccessKind) (k : SlotNo) (offset count : Nat)
    (data : List Word) :
    (s.admitted tag kind k offset count data).transactions = s.transactions ++ [s.admission tag kind k offset count] := rfl

theorem State.laneQueue_admitted (s : State) (tag : Byte) (kind : AccessKind) (k : SlotNo) (offset count : Nat)
    (data : List Word) (j : SlotNo) :
    (s.admitted tag kind k offset count data).laneQueue j =
      if j = k then s.laneQueue k ++ [s.admission tag kind k offset count] else s.laneQueue j := by
  rw [State.laneQueue, State.admitted_transactions, List.filter_append]
  split
  next same => subst same; simp [State.laneQueue, State.admission]
  next other => simp [State.laneQueue, State.admission, Ne.symm other]

theorem State.admitted_lands {s : State} {tag : Byte} (fresh : tag ∉ s.transactions.map Transaction.tag)
    {k : SlotNo} (placed : (s.slot k).state = .placed) (carries : (s.slot k).Carries (s.laneQueue k)) (kind : AccessKind)
    (offset count : Nat) (data : List Word) : s.LandsAt (s.admitted tag kind k offset count data) k where
  aside :=
    { slots := fun j _ queue old => old
      queues := fun j other => by rw [State.laneQueue_admitted, if_neg other]
      distinct := fun distinct => by
        rw [State.TagsDistinct, State.admitted_transactions, List.map_append, List.nodup_append]
        refine ⟨distinct, List.nodup_singleton _, fun a ha b hb same => fresh ?_⟩
        obtain rfl := List.mem_singleton.mp hb
        exact same ▸ ha }
  carries := by
    rw [State.laneQueue_admitted, if_pos rfl]
    exact carries.accept placed rfl

theorem State.cancelExchange_lands {s : State} (distinct : s.TagsDistinct) {t : Transaction} (present : t ∈ s.transactions)
    (exchanging : t.state = .inExchange) (carries : (s.slot t.slot).Carries (s.laneQueue t.slot)) {u : State}
    (slots : u.slots = s.slots) (transactions : u.transactions = (s.setTransactionState t.tag .cancelling).transactions) :
    s.LandsAt (u.cancelExchange t.slot) t.slot := by
  have marks : s.Aside u t.slot :=
    (State.setTransactionState_aside distinct present .cancelling).trans (.congr slots transactions)
  have marked : s.LandsAt (u.modLane t.slot Lane.cancel) t.slot := by
    refine ⟨marks.trans (State.modLane_aside _ _ _), ?_⟩
    rw [State.slot_modLane_self, State.slot_congr slots]
    change Slot.Carries _ (u.laneQueue t.slot)
    rw [State.laneQueue_congr transactions, State.laneQueue_setTransactionState]
    exact carries.cancel (State.laneQueue_tags_nodup distinct _) (State.mem_laneQueue.mpr ⟨present, rfl⟩) exchanging
  unfold State.cancelExchange
  dsimp only
  split
  next x exchange =>
    split
    · have ended := State.expireCancelled_lands (marked.aside.distinct distinct) marked.carries exchange
      exact State.LandsAt.advance ⟨marked.aside.trans ended.aside, ended.carries⟩ distinct
    · exact marked
  next => exact marked

/-- The serving of a request keeps the lanes and the Transaction Table in agreement. -/
theorem State.Serves.carries {s t : State} {r : HostRequest} {q : Request} (serves : s.Serves r q t)
    (distinct : s.TagsDistinct) (fresh : r.tag ∉ s.transactions.map Transaction.tag)
    (consistent : ∀ j, (s.slot j).Consistent) (all : ∀ j, (s.slot j).Carries (s.laneQueue j)) (j : SlotNo) :
    (t.slot j).Carries (t.laneQueue j) := by
  cases serves with
  | answered => exact State.answer_carries all _ _ _ j
  | params f p _ =>
    exact State.answer_carries (State.carries_congr (s.setParams_keeps p).2.2.2 (s.setParams_transactions p) all) _ _ _ j
  | restarted n scope => exact State.answer_carries (State.restart_carries distinct scope) _ _ _ j
  | redefined f c => exact State.answer_carries (s := s.redefineClass c) all _ _ _ j
  | created f c => exact State.answer_carries (State.addClass_carries distinct consistent all c) _ _ _ j
  | dropped code => exact State.answer_carries (s := s.dropClass code) all _ _ _ j
  | committed =>
    refine State.answer_carries (fun i => ?_) _ _ _ j
    rw [State.slot_commit, State.laneQueue_congr (s.commit_transactions _)]
    exact (all i).commit _
  | acknowledged => exact State.carries_congr (s := s) rfl rfl all j
  | resent => exact State.carries_congr (s := s) rfl rfl all j
  | enabled => exact State.carries_congr (s := s) rfl rfl all j
  | linkCleared => exact State.carries_congr (s := s) rfl rfl all j
  | laneCleared q k =>
    have cleared : s.LandsAt (s.countLane k fun _ => {}) k := .of_alike (s.countLane_alike k _) rfl (all k)
    exact State.answer_carries (cleared.all all) _ _ _ j
  | probed q k judged =>
    have ended := State.endTenure_aside distinct k .slotReset
    have probing := State.enterProbing_lands (ended.distinct distinct) (s.laneQueue_endTenure k .slotReset)
    exact State.answer_carries
      (State.LandsAt.all ⟨ended.trans probing.aside, probing.carries⟩ all) _ _ _ j
  | released q k placed =>
    have draining : s.LandsAt ((s.modSlot k fun sl => sl.enter (.draining false)).answer r .ok .none) k := by
      refine ⟨(s.modSlot_aside k fun sl => sl.enter (.draining false)).trans (.congr rfl rfl), ?_⟩
      rw [State.slot_answer, State.slot_modSlot_self]
      refine ⟨fun _ _ => rfl, (all k).oldest, (all k).carried, (all k).carrying, fun x hx kind open_ => ?_⟩
      obtain ⟨state, _⟩ := (all k).halting x hx kind open_
      rw [placed] at state
      cases state
    exact (draining.advance distinct).all all j
  | accepted q kind view address count offset k data _ _ room =>
    rw [State.accept_eq]
    have placed := (s.refuseAccess_eq_none.mp room).1
    exact ((State.admitted_lands fresh placed (all k) kind offset count data).advance distinct).all all j
  | withdrawn q t present waiting =>
    have withdrawn : s.LandsAt ((s.endCancelled t .notSent).answer r .ok (.foundState .waiting)) t.slot := by
      have ended := State.endTransaction_aside distinct present .free .cancelled (.cancelled t.generation .notSent)
      refine ⟨ended.trans (.congr rfl rfl), ?_⟩
      rw [State.slot_answer]
      change (s.slot t.slot).Carries ((s.endTransaction t .free .cancelled (.cancelled t.generation .notSent)).laneQueue _)
      rw [State.laneQueue_endTransaction]
      exact (all t.slot).withdraw (State.laneQueue_tags_nodup distinct _) (State.mem_laneQueue.mpr ⟨present, rfl⟩) waiting
    exact (withdrawn.advance distinct).all all j
  | cancelled q t present exchanging =>
    refine (State.cancelExchange_lands distinct present exchanging (all t.slot) ?_ ?_).all all j <;> rfl

/-! ## Events -/

theorem State.losePresence_lands {s : State} (distinct : s.TagsDistinct) (k : SlotNo) :
    s.LandsAt (s.losePresence k) k := by
  have transactions : (s.losePresence k).transactions = (s.endTenure k .moduleGone).transactions := by
    unfold State.losePresence
    dsimp only
    rw [State.modSlot_transactions, State.post_transactions, State.leave_transactions, State.modLane_transactions]
  have rests : (s.losePresence k).Rests k := State.endTenure_rests _ transactions (by
    rw [State.slot_losePresence, if_pos rfl]
    rfl)
  refine ⟨(State.endTenure_aside distinct k .moduleGone).trans (.of_slots (fun j other => ?_) transactions),
    rests.waits.carries⟩
  rw [State.slot_losePresence, if_neg other, State.slot_endTenure]

theorem State.hostFrameSent_transactions (s : State) (source : FrameSource) :
    (s.hostFrameSent source).transactions = s.transactions := by
  unfold State.hostFrameSent
  cases source with
  | reply =>
    simp only [State.replySent, State.countSinceNotice]
    split <;> rfl
  | _ => rfl

/-- An event of the part keeps the lanes and the Transaction Table in agreement. -/
theorem State.Happens.carries {s u : State} {c : Instr} (happens : s.Happens c u) (distinct : s.TagsDistinct)
    (consistent : ∀ j, (s.slot j).Consistent) (all : ∀ j, (s.slot j).Carries (s.laneQueue j)) (j : SlotNo) :
    (u.slot j).Carries (u.laneQueue j) := by
  cases happens with
  | hostByteReceived line =>
    have link := s.takeHostByte_linkWork (byteOnLine line)
    exact State.carries_congr link.slots link.transactions all j
  | gapTimerExpiry => exact State.carries_congr (s := s) rfl rfl all j
  | hostFrameSent f => exact State.carries_congr (s.hostFrameSent_slots _) (s.hostFrameSent_transactions _) all j
  | presenceRise k state =>
    have nil : s.laneQueue k = [] := (all k).queue_nil (by rw [state]; rfl)
    have settling : s.LandsAt (s.modSlot k fun sl => sl.beginSettling s.params.settleTime) k := by
      refine ⟨s.modSlot_aside k _, Slot.Waits.carries ?_⟩
      change Slot.Waits _ (s.laneQueue k)
      rw [State.slot_modSlot_self, nil]
      exact .nil ((consistent k).idle (by rw [state]; rfl))
    exact settling.all all j
  | presenceLoss k => exact (State.losePresence_lands distinct k).all all j
  | settlePeriodExpiry k state =>
    exact (State.enterProbing_lands distinct ((all k).queue_nil (by rw [state]; rfl))).all all j
  | laneByteReceived k line =>
    exact (State.takeLaneByte_lands distinct (all k) (consistent k).sound _).all all j
  | laneSilenceTimeout k =>
    have received : s.SlotsAlike (s.setLaneReceiver k .between) := State.modLane_alike
    have ended : s.LandsAt ((s.setLaneReceiver k .between).countUngood k) k :=
      .of_alike (received.trans (State.countLane_alike _ k _)) rfl (all k)
    exact ended.all all j
  | replyTimeExpiry k x exchange =>
    exact ((State.replyExpired_lands distinct (all k) (consistent k).sound exchange).advance distinct).all all j
  | laneFrameSent k f =>
    have sent : s.LandsAt ((s.modLane k fun l => l.frameSent f).laneTransmit k) k :=
      .of_alike ((s.frameSent_alike k f).trans (State.laneTransmit_alike _ k)) (State.laneTransmit_transactions _ k) (all k)
    exact sent.all all j

theorem State.started_carries {s : State} (powerOn : s = State.powerOn s.pending) (rate1 rate0 : Bool)
    (presence : BitVec 16) (k : SlotNo) :
    ((s.started rate1 rate0 presence).slot k).Carries ((s.started rate1 rate0 presence).laneQueue k) := by
  have empty : (s.started rate1 rate0 presence).transactions = [] :=
    (congrArg State.transactions powerOn : s.transactions = [])
  refine State.carries_of_empty empty (fun j => ?_) k
  have slot : s.slot j = Slot.powerOn := by rw [powerOn, State.slot_powerOn]
  rw [State.slot_started, slot]
  split <;> rfl

theorem exec_lanesInvariant {c : Instr} {s t : State} (slots : s.SlotsInvariant) (ledger : s.LedgerInvariant)
    (lanes : s.LanesInvariant) (next : exec c s = .next t) : t.LanesInvariant := by
  rw [State.lanesInvariant_iff] at lanes ⊢
  have distinct := ledger.tagsDistinct
  rcases exec_cases next with rfl | ⟨_, rfl⟩ | ⟨rate1, rate0, presence, _, held, rfl⟩ | ⟨r, offer, _, rfl⟩ |
    ⟨_, u, happens, rfl⟩
  · exact lanes
  · exact State.carries_of_empty rfl fun k => by rw [State.slot_powerOn]; rfl
  · exact State.started_carries (slots.held held) rate1 rate0 presence
  · have fresh : r.tag ∉ s.dropHead.transactions.map Transaction.tag := fun mem =>
      ledger.tag_notMem offer.head (List.mem_append_right _ mem)
    exact State.carries_congr (State.transmit_slots _) (State.transmit_transactions _)
      ((State.serve_serves s.dropHead r _).carries distinct fresh slots.slots lanes)
  · exact State.carries_congr (State.transmit_slots _) (State.transmit_transactions _)
      (happens.carries distinct slots.slots lanes)

/-- Settles O60: each step works on one lane and leaves the others in agreement, and on its own lane an exchange and its
transaction begin, are marked and end together. -/
theorem lanesStayConsistent : Obligations.LanesStayConsistent := by
  unfold Obligations.LanesStayConsistent
  intro s t slots ledger lanes next
  rcases step_cases next with ⟨_, rfl⟩ | ⟨c, rest, _, run⟩
  · exact lanes
  · exact exec_lanesInvariant (slots.dequeue rest) (ledger.congr rfl rfl rfl rfl)
      ⟨lanes.participates, lanes.oldest, lanes.carried, lanes.carrying, lanes.halting⟩ run

end Sys2Proof.Machine
end

section
/-! SUPPORT. Packing (chapter 2): where an item goes, what the walk lays out, and the proofs of the statements about them. -/

namespace Sys2Proof.Machine

-- One proof at a time: many side by side take a thread and its stack each.
set_option Elab.async false

/-! ## The base of an extent (R23, R27) -/

section
variable {n m : Nat} (positive : 0 < m)
include positive

theorem le_roundUp : n ≤ roundUp n m := by
  have := Nat.div_add_mod (n + (m - 1)) m
  have := Nat.mod_lt (n + (m - 1)) positive
  have : roundUp n m = m * ((n + (m - 1)) / m) := Nat.mul_comm _ _
  omega

theorem roundUp_le {b : Nat} (above : n ≤ b) (multiple : m ∣ b) : roundUp n m ≤ b := by
  obtain ⟨q, rfl⟩ := multiple
  have : (n + (m - 1)) / m ≤ q := by
    rw [← Nat.lt_succ_iff, Nat.div_lt_iff_lt_mul positive, Nat.succ_mul, Nat.mul_comm]
    omega
  calc roundUp n m ≤ q * m := Nat.mul_le_mul_right m this
    _ = m * q := Nat.mul_comm _ _

end

theorem dvd_roundUp (n m : Nat) : m ∣ roundUp n m := Nat.dvd_mul_left _ _

/-- Rounding up gives the least multiple that is not below (R23, R25). -/
theorem isLeast_roundUp {m : Nat} (positive : 0 < m) (n : Nat) : IsLeast { b | n ≤ b ∧ m ∣ b } (roundUp n m) :=
  ⟨⟨le_roundUp positive, dvd_roundUp n m⟩, fun _ hb => roundUp_le positive hb.1 hb.2⟩

/-- The lower-based of two regions, the first where they stand at one base (R23). -/
def lowerRegion (best : Option Region) (r : Region) : Option Region :=
  match best with
  | none => some r
  | some b => if r.base < b.base then some r else some b

theorem lowerRegion_cases (best : Option Region) (r : Region) :
    lowerRegion best r = some r ∨ (lowerRegion best r = best ∧ best ≠ none) := by
  unfold lowerRegion
  split
  · exact .inl rfl
  · split
    · exact .inl rfl
    · exact .inr ⟨rfl, Option.some_ne_none _⟩

/-- The fold over regions ends with the best it began with or a region it met. -/
theorem foldl_lowerRegion_mem (regions : List Region) (best : Option Region) {r : Region}
    (h : regions.foldl lowerRegion best = some r) : best = some r ∨ r ∈ regions := by
  induction regions generalizing best with
  | nil => exact .inl h
  | cons g regions ih =>
    rcases ih _ h with met | later
    · rcases lowerRegion_cases best g with first | ⟨kept, _⟩
      · exact .inr (by rw [← Option.some.inj (first.symm.trans met)]; exact List.mem_cons_self)
      · exact .inl (kept.symm.trans met)
    · exact .inr (List.mem_cons_of_mem g later)

theorem foldl_lowerRegion_eq_none (regions : List Region) (best : Option Region)
    (h : regions.foldl lowerRegion best = none) : best = none ∧ regions = [] := by
  induction regions generalizing best with
  | nil => exact ⟨h, rfl⟩
  | cons g regions ih =>
    obtain ⟨met, _⟩ := ih _ h
    rcases lowerRegion_cases best g with first | ⟨kept, some_best⟩
    · cases first.symm.trans met
    · exact absurd (kept.symm.trans met) some_best

theorem lowestOverlapped_eq_some {regions : List Region} {extent r : Region}
    (h : lowestOverlapped regions extent = some r) : r ∈ regions ∧ extent.overlaps r = true := by
  rcases foldl_lowerRegion_mem _ none h with none_some | mem
  · cases none_some
  · exact List.mem_filter.mp mem

theorem lowestOverlapped_eq_none {regions : List Region} {extent : Region}
    (h : lowestOverlapped regions extent = none) : ∀ g ∈ regions, Region.Disjoint extent g := by
  intro g hg
  obtain ⟨_, nil⟩ := foldl_lowerRegion_eq_none _ none h
  by_contra meets
  have := List.filter_eq_nil_iff.mp nil g hg
  exact this ((Region.overlaps_iff _ _).mpr meets)

/-- The bases that step 2 of R23 admits. -/
def Admits (regions : List Region) (cursor size align : Nat) : Set Nat :=
  { b | cursor ≤ b ∧ align ∣ b ∧ ∀ g ∈ regions, Region.Disjoint ⟨b, size⟩ g }

/-- An admissible base beyond an overlapped region is beyond its end (R23). -/
theorem le_of_admits {regions : List Region} {candidate size align b : Nat} {r : Region} (mem : r ∈ regions)
    (meets : Region.overlaps ⟨candidate, size⟩ r = true) (positive : 0 < align)
    (admits : b ∈ Admits regions candidate size align) : roundUp (r.base + r.size) align ≤ b := by
  obtain ⟨above, multiple, clear⟩ := admits
  have disjoint := clear r mem
  simp only [Region.overlaps, Bool.and_eq_true, decide_eq_true_eq, Region.Disjoint] at meets disjoint
  exact roundUp_le positive (by omega) multiple

/-- Fewer elements meet a stronger condition that one of those meeting the weaker fails. -/
theorem countP_lt_countP {α : Type} {p q : α → Bool} {l : List α} (weaker : ∀ a, p a = true → q a = true) {a : α}
    (mem : a ∈ l) (fails : p a = false) (meets : q a = true) : l.countP p < l.countP q := by
  induction l with
  | nil => cases mem
  | cons b l ih =>
    have rest : l.countP p ≤ l.countP q := List.countP_mono_left fun c _ => weaker c
    rcases List.mem_cons.mp mem with rfl | later
    · rw [List.countP_cons_of_neg (by simp [fails]), List.countP_cons_of_pos meets]
      omega
    · have fewer := ih later
      have step : (if p b = true then 1 else 0) ≤ (if q b = true then 1 else 0 : Nat) := by
        split
        next pb => rw [if_pos (weaker b pb)]
        next => exact Nat.zero_le _
      rw [List.countP_cons, List.countP_cons]
      omega

/-- Step 2 of R23 finds the least admissible base: each move leaves a region behind, so as many moves as regions that end
beyond the candidate suffice. -/
theorem isLeast_stepOver (regions : List Region) (size : Nat) {align : Nat} (positive : 0 < align) (moves candidate : Nat)
    (enough : regions.countP (fun r => decide (candidate < r.base + r.size)) ≤ moves) (multiple : align ∣ candidate) :
    IsLeast (Admits regions candidate size align) (stepOver regions size align moves candidate) := by
  induction moves generalizing candidate with
  | zero =>
    refine ⟨⟨Nat.le_refl _, multiple, fun g hg => .inr ?_⟩, fun b hb => hb.1⟩
    have := List.countP_eq_zero.mp (Nat.le_zero.mp enough) g hg
    have ends : g.base + g.size ≤ candidate := by simpa using this
    exact ends
  | succ moves ih =>
    unfold stepOver
    split
    next clear =>
      exact ⟨⟨Nat.le_refl _, multiple, lowestOverlapped_eq_none clear⟩, fun b hb => hb.1⟩
    next r met =>
      obtain ⟨mem, meets⟩ := lowestOverlapped_eq_some met
      have beyond : candidate < r.base + r.size := by
        simp only [Region.overlaps, Bool.and_eq_true, decide_eq_true_eq] at meets
        exact meets.1
      have moved : r.base + r.size ≤ roundUp (r.base + r.size) align := le_roundUp positive
      have fewer : regions.countP (fun g => decide (roundUp (r.base + r.size) align < g.base + g.size)) <
          regions.countP (fun g => decide (candidate < g.base + g.size)) := by
        refine countP_lt_countP (fun g later => ?_) mem (by simpa using moved) (by simpa using beyond)
        simp only [decide_eq_true_eq] at later ⊢
        omega
      have next := ih (roundUp (r.base + r.size) align) (by omega) (dvd_roundUp _ _)
      refine ⟨⟨?_, next.1.2⟩, fun b hb => next.2 ⟨le_of_admits mem meets positive hb, hb.2⟩⟩
      have := next.1.1
      omega

theorem findBase_eq_some_iff (regions : List Region) (cursor size : Nat) {align : Nat} (positive : 0 < align) (base : Nat) :
    findBase regions cursor size align = some base ↔
      base + size ≤ 65536 ∧ IsLeast (Admits regions cursor size align) base := by
  have stepped := isLeast_stepOver regions size positive regions.length (roundUp cursor align)
    List.countP_le_length (dvd_roundUp _ _)
  have least : IsLeast (Admits regions cursor size align)
      (stepOver regions size align regions.length (roundUp cursor align)) := by
    refine ⟨⟨(le_roundUp positive).trans stepped.1.1, stepped.1.2⟩, fun b hb => stepped.2 ⟨?_, hb.2⟩⟩
    exact roundUp_le positive hb.1 hb.2.1
  unfold findBase Config.windowSpace
  dsimp only
  constructor
  · intro found
    split at found
    next fits =>
      obtain rfl := Option.some.inj found
      exact ⟨fits, least⟩
    next => cases found
  · rintro ⟨fits, isLeast⟩
    obtain rfl := isLeast.unique least
    exact if_pos fits

/-! ## The event range of an item (R2, R25) -/

theorem eventAlignment_pos (span : Nat) : 0 < eventAlignment span := by
  unfold eventAlignment
  split_ifs <;> omega

theorem isLeast_eventAlignment {span : Nat} (high : span ≤ 16) :
    IsLeast { m | (∃ i, m = 2 ^ i) ∧ span ≤ m } (eventAlignment span) := by
  have power : ∃ i, eventAlignment span = 2 ^ i := by
    unfold eventAlignment
    split_ifs
    · exact ⟨0, rfl⟩
    · exact ⟨1, rfl⟩
    · exact ⟨2, rfl⟩
    · exact ⟨3, rfl⟩
    · exact ⟨4, rfl⟩
  refine ⟨⟨power, ?_⟩, ?_⟩
  · unfold eventAlignment
    split_ifs <;> omega
  · rintro m ⟨⟨i, rfl⟩, enough⟩
    have above (j : Nat) (hj : 2 ^ j < span) : 2 ^ (j + 1) ≤ 2 ^ i :=
      Nat.pow_le_pow_right (by omega) (Nat.pow_lt_pow_iff_right (by omega) |>.mp (hj.trans_le enough))
    have least : 1 ≤ 2 ^ i := Nat.one_le_two_pow
    unfold eventAlignment
    split_ifs with h0 h1 h2 h3
    · exact least
    · exact above 0 (by omega)
    · exact above 1 (by omega)
    · exact above 2 (by omega)
    · exact above 3 (by omega)

theorem findEvents_zero (cursor : Nat) : findEvents cursor 0 = some (none, cursor) := rfl

theorem findEvents_of_pos {span : Nat} (positive : 1 ≤ span) (cursor : Nat) :
    findEvents cursor span =
      if roundUp cursor (eventAlignment span) + span ≤ 256 then
        some (some ⟨roundUp cursor (eventAlignment span), span⟩, roundUp cursor (eventAlignment span) + span)
      else none := if_neg (by omega)

/-! ## The entry of an item (R21, R24, R26, R27) -/

theorem placeRun_eq_some_iff {regions : List Region} {c : ClassEntry} {kind : EntryKind} {cur next : Cursors} {e : Entry} :
    placeRun regions c kind cur = some (e, next) ↔ ∃ base events cursor,
      findBase regions cur.window c.size (2 ^ c.exponent) = some base ∧
      findEvents cur.event c.span = some (events, cursor) ∧
      e = ⟨kind, base, c.size, c.code, false, events⟩ ∧ next = ⟨base + c.size, cursor⟩ := by
  unfold placeRun
  cases findBase regions cur.window c.size (2 ^ c.exponent) with
  | none => simp
  | some base =>
    cases findEvents cur.event c.span with
    | none => simp
    | some found =>
      obtain ⟨events, cursor⟩ := found
      simp only [Option.some.injEq, Prod.mk.injEq]
      constructor
      · rintro ⟨rfl, rfl⟩
        exact ⟨base, events, cursor, rfl, ⟨rfl, rfl⟩, rfl, rfl⟩
      · rintro ⟨_, _, _, rfl, ⟨rfl, rfl⟩, rfl, rfl⟩
        exact ⟨rfl, rfl⟩

/-- Settles O24: rounding up and stepping over find the least admissible base, and each item uses them as R24 to R27 say. -/
theorem placesFound : Obligations.PlacesFound := by
  unfold Obligations.PlacesFound
  refine ⟨fun regions cursor size exponent base => findBase_eq_some_iff regions cursor size (Nat.two_pow_pos exponent) base,
    fun span _ high => isLeast_eventAlignment high, rfl, findEvents_zero, fun cursor span positive _ base least => ?_,
    fun regions item cur next e => ?_⟩
  · obtain rfl := least.unique (isLeast_roundUp (eventAlignment_pos span) cursor)
    rw [findEvents_of_pos positive]
    exact ⟨fun fits => if_pos fits, fun beyond => if_neg (by omega)⟩
  · cases item with
    | anchorHolder c base slot =>
      simp only [placeItem, Option.map_eq_some_iff, Prod.mk.injEq, Prod.exists]
      have kind : (slot.map EntryKind.window).getD .heldAnchor = (match slot with
          | some k => EntryKind.window k
          | none => EntryKind.heldAnchor) := by cases slot <;> rfl
      rw [kind]
      constructor
      · rintro ⟨events, cursor, found, rfl, rfl⟩
        exact ⟨events, cursor, found, rfl, rfl⟩
      · rintro ⟨events, cursor, found, rfl, rfl⟩
        exact ⟨events, cursor, found, rfl, rfl⟩
    | module c k => exact placeRun_eq_some_iff
    | reserve c => exact placeRun_eq_some_iff
    | fence c =>
      simp only [placeItem, Option.map_eq_some_iff, Prod.mk.injEq]
      constructor
      · rintro ⟨base, found, rfl, rfl⟩
        exact ⟨base, found, rfl, rfl⟩
      · rintro ⟨base, found, rfl, rfl⟩
        exact ⟨base, found, rfl, rfl⟩

end Sys2Proof.Machine
end

section
/-! SUPPORT. The walk and the draft (R15 to R31): what the packing lays out, and the proofs of the statements about them. -/

namespace Sys2Proof.Machine

-- One proof at a time: many side by side take a thread and its stack each.
set_option Elab.async false

/-! ## Entries in base order (R31) -/

theorem insertByBase_perm (e : Entry) (entries : List Entry) : (insertByBase e entries).Perm (e :: entries) := by
  induction entries with
  | nil => exact .refl _
  | cons x entries ih =>
    unfold insertByBase
    split
    · exact .refl _
    · exact (ih.cons x).trans (.swap e x entries)

theorem sortByBase_perm (entries : List Entry) : (sortByBase entries).Perm entries := by
  induction entries with
  | nil => exact .refl _
  | cons e entries ih => exact (insertByBase_perm e _).trans (ih.cons e)

theorem insertByBase_sorted (e : Entry) {entries : List Entry} (sorted : entries.Pairwise fun a b => a.base ≤ b.base) :
    (insertByBase e entries).Pairwise fun a b => a.base ≤ b.base := by
  induction entries with
  | nil => exact List.pairwise_singleton _ _
  | cons x entries ih =>
    obtain ⟨first, rest⟩ := List.pairwise_cons.mp sorted
    unfold insertByBase
    split
    next lower =>
      refine List.pairwise_cons.mpr ⟨fun y hy => ?_, sorted⟩
      rcases List.mem_cons.mp hy with rfl | later
      · omega
      · have := first y later
        omega
    next higher =>
      refine List.pairwise_cons.mpr ⟨fun y hy => ?_, ih rest⟩
      rcases List.mem_cons.mp ((insertByBase_perm e entries).mem_iff.mp hy) with rfl | later
      · omega
      · exact first y later

theorem sortByBase_sorted (entries : List Entry) : (sortByBase entries).Pairwise fun a b => a.base ≤ b.base := by
  induction entries with
  | nil => exact .nil
  | cons e entries ih => exact insertByBase_sorted e ih

/-! ## The participating set (R17) -/

theorem mem_members_iff (s : State) (k : SlotNo) (code : Nat) :
    ⟨k, code⟩ ∈ s.members ↔ (s.slot k).state.participates = true ∧ (s.slot k).classCode = code := by
  simp only [State.members, List.mem_map, List.mem_filter, mem_slotNumbers, true_and, Member.mk.injEq]
  constructor
  · rintro ⟨j, part, rfl, same⟩
    exact ⟨part, same⟩
  · rintro ⟨part, same⟩
    exact ⟨k, part, rfl, same⟩

theorem members_sorted (s : State) : s.members.Pairwise fun a b => a.slot < b.slot :=
  List.pairwise_map.mpr ((List.pairwise_lt_finRange 16).filter _)

theorem members_nodup (s : State) : (s.members.map Member.slot).Nodup :=
  List.pairwise_map.mpr ((members_sorted s).imp fun less => ne_of_lt less)

theorem SlotState.participates_iff (st : SlotState) :
    st.participates = true ↔ (∃ reason, st = .pending reason) ∨ st = .placed ∨ ∃ haltSent, st = .draining haltSent := by
  cases st <;> simp [SlotState.participates]

theorem SlotState.holdsWindow_iff (st : SlotState) :
    st.holdsWindow = true ↔ st = .placed ∨ ∃ haltSent, st = .draining haltSent := by
  cases st <;> simp [SlotState.holdsWindow]

theorem EntryKind.isWindow_iff (kind : EntryKind) : kind.isWindow = true ↔ ∃ k, kind = .window k := by
  cases kind <;> simp [EntryKind.isWindow]

theorem windowOf_eq_some_iff (entries : List Entry) (k : SlotNo) (e : Entry) :
    windowOf entries k = some e ↔
      ∃ before after, entries = before ++ e :: after ∧ e.kind = .window k ∧ ∀ d ∈ before, d.kind ≠ .window k := by
  rw [windowOf, List.find?_eq_some_iff_append]
  simp only [decide_eq_true_eq, Bool.not_eq_true', decide_eq_false_iff_not]
  constructor
  · rintro ⟨kind, before, after, split, others⟩
    exact ⟨before, after, split, kind, others⟩
  · rintro ⟨before, after, split, kind, others⟩
    exact ⟨kind, before, after, split, others⟩

/-! ## The items of a group (R19, R20, R27) -/

/-- The class of an item. -/
def Item.entry : Item → ClassEntry
  | .anchorHolder c _ _ => c
  | .module c _ => c
  | .reserve c => c
  | .fence c => c

/-- The slot an item is for. -/
def Item.slot? : Item → Option SlotNo
  | .anchorHolder _ _ slot => slot
  | .module _ k => some k
  | .reserve _ => none
  | .fence _ => none

/-- The anchor region an item stands in. -/
def Item.region? : Item → Option Region
  | .anchorHolder c base _ => some ⟨base, c.size⟩
  | .module _ _ => none
  | .reserve _ => none
  | .fence _ => none

theorem slotsOfClass_mem {members : List Member} {code : Nat} {k : SlotNo} :
    k ∈ slotsOfClass members code ↔ ∃ m ∈ members, m.slot = k ∧ m.code = code := by
  simp only [slotsOfClass, List.mem_map, List.mem_filter, beq_iff_eq]
  constructor
  · rintro ⟨m, ⟨mem, same⟩, rfl⟩
    exact ⟨m, mem, rfl, same⟩
  · rintro ⟨m, mem, rfl, same⟩
    exact ⟨m, ⟨mem, same⟩, rfl⟩

theorem slotsOfClass_sublist (members : List Member) (code : Nat) :
    (slotsOfClass members code).Sublist (members.map Member.slot) := List.filter_sublist.map _

section
variable (c : ClassEntry) (others : List SlotNo)

theorem runItems_eq :
    runItems c others =
      if others.map (Item.module c) ++ List.replicate c.reserve (Item.reserve c) = [] then []
      else others.map (Item.module c) ++ List.replicate c.reserve (Item.reserve c) ++ [.fence c] := by
  unfold runItems
  simp only [List.isEmpty_iff]

theorem runItems_slots : (runItems c others).filterMap Item.slot? = others := by
  have modules : (others.map (Item.module c)).filterMap Item.slot? = others := by
    rw [List.filterMap_map]
    exact List.filterMap_some
  have reserves : (List.replicate c.reserve (Item.reserve c)).filterMap Item.slot? = [] := by
    rw [List.filterMap_replicate_of_none rfl]
  rw [runItems_eq]
  split
  next none =>
    rw [List.append_eq_nil_iff, List.map_eq_nil_iff] at none
    rw [none.1]
    rfl
  next => rw [List.filterMap_append, List.filterMap_append, modules, reserves]; simp [Item.slot?]

theorem mem_runItems {item : Item} (h : item ∈ runItems c others) :
    item.entry = c ∧ item.region? = none ∧ ∀ k, item.slot? = some k → k ∈ others := by
  rw [runItems_eq] at h
  split at h
  · cases h
  · rcases List.mem_append.mp h with run | fence
    · rcases List.mem_append.mp run with held | reserve
      · obtain ⟨k, hk, rfl⟩ := List.mem_map.mp held
        exact ⟨rfl, rfl, fun j hj => Option.some.inj hj ▸ hk⟩
      · rw [List.eq_of_mem_replicate reserve]
        exact ⟨rfl, rfl, nofun⟩
    · rw [List.mem_singleton.mp fence]
      exact ⟨rfl, rfl, nofun⟩

theorem runItems_regions : (runItems c others).filterMap Item.region? = [] :=
  List.filterMap_eq_nil_iff.mpr fun _ h => (mem_runItems c others h).2.1

theorem runItems_length : (runItems c others).length ≤ others.length + c.reserve + 1 := by
  rw [runItems_eq]
  split
  · simp
  · simp only [List.length_append, List.length_map, List.length_replicate, List.length_singleton]
    omega

end

section
variable (members : List Member) (c : ClassEntry)

theorem groupItems_of_anchored {base : Nat} (anchor : c.anchor = some base) :
    groupItems members c =
      .anchorHolder c base (slotsOfClass members c.code).head? :: runItems c (slotsOfClass members c.code).tail := by
  unfold groupItems
  rw [anchor]

theorem groupItems_of_unanchored (anchor : c.anchor = none) :
    groupItems members c = runItems c (slotsOfClass members c.code) := by
  unfold groupItems
  rw [anchor]

theorem groupItems_slots : (groupItems members c).filterMap Item.slot? = slotsOfClass members c.code := by
  cases anchor : c.anchor with
  | none => rw [groupItems_of_unanchored members c anchor, runItems_slots]
  | some base =>
    rw [groupItems_of_anchored members c anchor, List.filterMap_cons, runItems_slots]
    cases slotsOfClass members c.code <;> rfl

theorem groupItems_regions : (groupItems members c).filterMap Item.region? = c.region?.toList := by
  cases anchor : c.anchor with
  | none => rw [groupItems_of_unanchored members c anchor, runItems_regions]; simp [ClassEntry.region?, anchor]
  | some base =>
    rw [groupItems_of_anchored members c anchor, List.filterMap_cons, runItems_regions]
    simp [ClassEntry.region?, Item.region?, anchor]

/-- What an item of a group says of its class: an anchor holder stands at the anchor of the class, and the slots are
members of the class (R20). -/
theorem mem_groupItems {item : Item} (h : item ∈ groupItems members c) :
    item.entry = c ∧ (∀ r, item.region? = some r → c.anchor = some r.base) ∧
      ∀ k, item.slot? = some k → k ∈ slotsOfClass members c.code := by
  have slots (k : SlotNo) (hk : item.slot? = some k) : k ∈ slotsOfClass members c.code := by
    rw [← groupItems_slots members c]
    exact List.mem_filterMap.mpr ⟨item, h, hk⟩
  cases anchor : c.anchor with
  | none =>
    rw [groupItems_of_unanchored members c anchor] at h
    obtain ⟨entry, region, _⟩ := mem_runItems c _ h
    exact ⟨entry, fun r hr => (by rw [region] at hr; cases hr), slots⟩
  | some base =>
    rw [groupItems_of_anchored members c anchor] at h
    rcases List.mem_cons.mp h with rfl | run
    · refine ⟨rfl, fun r hr => ?_, slots⟩
      obtain rfl := Option.some.inj hr
      rfl
    · obtain ⟨entry, region, _⟩ := mem_runItems c _ run
      exact ⟨entry, fun r hr => (by rw [region] at hr; cases hr), slots⟩

theorem groupItems_length : (groupItems members c).length ≤ (slotsOfClass members c.code).length + c.reserve + 2 := by
  cases anchor : c.anchor with
  | none =>
    rw [groupItems_of_unanchored members c anchor]
    exact (runItems_length c _).trans (by omega)
  | some base =>
    rw [groupItems_of_anchored members c anchor, List.length_cons]
    have := runItems_length c (slotsOfClass members c.code).tail
    rw [List.length_tail] at this
    omega

end

/-! ## What one item lays out -/

theorem findBase_spec {regions : List Region} {cursor size align base : Nat} (positive : 0 < align)
    (found : findBase regions cursor size align = some base) :
    cursor ≤ base ∧ align ∣ base ∧ base + size ≤ 65536 ∧ ∀ g ∈ regions, Region.Disjoint ⟨base, size⟩ g := by
  obtain ⟨fits, least⟩ := (findBase_eq_some_iff regions cursor size positive base).mp found
  exact ⟨least.1.1, least.1.2.1, fits, least.1.2.2⟩

theorem findEvents_spec {cursor span after : Nat} {events : Option EventRange}
    (found : findEvents cursor span = some (events, after)) :
    (span = 0 ∧ events = none ∧ after = cursor) ∨
    (1 ≤ span ∧ ∃ base, events = some ⟨base, span⟩ ∧ cursor ≤ base ∧ base + span ≤ 256 ∧ after = base + span) := by
  by_cases zero : span = 0
  · subst zero
    rw [findEvents_zero] at found
    cases found
    exact .inl ⟨rfl, rfl, rfl⟩
  · rw [findEvents_of_pos (by omega)] at found
    split at found
    next fits =>
      cases found
      exact .inr ⟨by omega, _, rfl, le_roundUp (eventAlignment_pos span), fits, rfl⟩
    next => cases found

/-- The extent of an entry. -/
def Entry.region (e : Entry) : Region := ⟨e.base, e.size⟩

/-- What an item lays out, from the cursors `cur` to `next`. -/
structure Item.Lays (item : Item) (regions : List Region) (cur : Cursors) (e : Entry) (next : Cursors) : Prop where
  code : e.classCode = item.entry.code
  slot : e.kind.slot? = item.slot?
  vacancy : e.kind ≠ .vacancy
  anchored : e.anchored = item.region?.isSome
  held : e.kind = .heldAnchor → e.anchored = true
  holder : e.anchored = true → e.kind.isWindow = true ∨ e.kind = .heldAnchor
  place : (item.region? = some e.region ∧ next.window = cur.window) ∨
    (item.region? = none ∧ cur.window ≤ e.base ∧ e.base + e.size ≤ 65536 ∧ next.window = e.base + e.size ∧
      ∀ g ∈ regions, Region.Disjoint e.region g)
  events : (e.events = none ∧ next.event = cur.event) ∨
    ∃ r, e.events = some r ∧ 1 ≤ r.span ∧ cur.event ≤ r.base ∧ r.base + r.span ≤ 256 ∧ next.event = r.base + r.span
  shape : (e.kind = .fence ∧ e.size = 1 ∧ e.events = none ∧ e.anchored = false) ∨
    (e.kind ≠ .fence ∧ e.size = item.entry.size ∧ (item.region? = none → 2 ^ item.entry.exponent ∣ e.base) ∧
      e.events.map EventRange.span = if item.entry.span = 0 then none else some item.entry.span)

theorem events_of_findEvents {cursor span after : Nat} {events : Option EventRange}
    (found : findEvents cursor span = some (events, after)) :
    ((events = none ∧ after = cursor) ∨
      ∃ r, events = some r ∧ 1 ≤ r.span ∧ cursor ≤ r.base ∧ r.base + r.span ≤ 256 ∧ after = r.base + r.span) ∧
    events.map EventRange.span = if span = 0 then none else some span := by
  rcases findEvents_spec found with ⟨zero, rfl, same⟩ | ⟨positive, base, rfl, above, fits, after⟩
  · exact ⟨.inl ⟨rfl, same⟩, by rw [if_pos zero]; rfl⟩
  · exact ⟨.inr ⟨_, rfl, positive, above, fits, after⟩, by rw [if_neg (by omega)]; rfl⟩

theorem placeRun_lays {regions : List Region} {item : Item} {kind : EntryKind} {cur next : Cursors} {e : Entry}
    (placed : placeRun regions item.entry kind cur = some (e, next)) (slot : kind.slot? = item.slot?)
    (run : item.region? = none) (free : kind ≠ .vacancy ∧ kind ≠ .heldAnchor ∧ kind ≠ .fence) :
    item.Lays regions cur e next := by
  obtain ⟨base, events, cursor, found, ranged, rfl, rfl⟩ := placeRun_eq_some_iff.mp placed
  obtain ⟨above, multiple, fits, clear⟩ := findBase_spec (Nat.two_pow_pos _) found
  obtain ⟨range, spans⟩ := events_of_findEvents ranged
  exact
    { code := rfl, slot := slot, vacancy := free.1, anchored := by rw [run]; rfl, held := fun h => absurd h free.2.1
      holder := nofun, place := .inr ⟨run, above, fits, rfl, clear⟩, events := range
      shape := .inr ⟨free.2.2, rfl, fun _ => multiple, spans⟩ }

theorem placeItem_lays {regions : List Region} {item : Item} {cur next : Cursors} {e : Entry}
    (placed : placeItem regions item cur = some (e, next)) : item.Lays regions cur e next := by
  match item, placed with
  | .anchorHolder c base slot, placed =>
    simp only [placeItem, Option.map_eq_some_iff, Prod.mk.injEq, Prod.exists] at placed
    obtain ⟨events, cursor, ranged, rfl, rfl⟩ := placed
    obtain ⟨range, spans⟩ := events_of_findEvents ranged
    refine
      { code := rfl, slot := ?_, vacancy := ?_, anchored := rfl, held := fun _ => rfl, holder := fun _ => ?_
        place := .inl ⟨rfl, rfl⟩, events := range, shape := .inr ⟨?_, rfl, nofun, spans⟩ }
    · cases slot <;> rfl
    · cases slot <;> simp
    · cases slot <;> simp [EntryKind.isWindow]
    · cases slot <;> simp
  | .module c k, placed => exact placeRun_lays (item := .module c k) placed rfl rfl (by simp)
  | .reserve c, placed => exact placeRun_lays (item := .reserve c) placed rfl rfl (by simp)
  | .fence c, placed =>
    simp only [placeItem, Option.map_eq_some_iff, Prod.mk.injEq] at placed
    obtain ⟨base, found, rfl, rfl⟩ := placed
    obtain ⟨above, _, fits, clear⟩ := findBase_spec Nat.one_pos found
    exact
      { code := rfl, slot := rfl, vacancy := by simp, anchored := rfl, held := by simp, holder := by simp
        place := .inr ⟨rfl, above, fits, rfl, clear⟩, events := .inl ⟨rfl, rfl⟩
        shape := .inl ⟨rfl, rfl, rfl, rfl⟩ }

/-- No cursor moves backwards (R22, R26). -/
theorem Item.Lays.cursors {item : Item} {regions : List Region} {cur next : Cursors} {e : Entry}
    (h : item.Lays regions cur e next) :
    cur.window ≤ next.window ∧ cur.event ≤ next.event ∧ (cur.window ≤ 65536 → next.window ≤ 65536) ∧
      (cur.event ≤ 256 → next.event ≤ 256) := by
  have window : cur.window ≤ next.window ∧ (cur.window ≤ 65536 → next.window ≤ 65536) := by
    rcases h.place with ⟨_, same⟩ | ⟨_, above, fits, after, _⟩
    · omega
    · omega
  have event : cur.event ≤ next.event ∧ (cur.event ≤ 256 → next.event ≤ 256) := by
    rcases h.events with ⟨_, same⟩ | ⟨r, _, _, above, fits, after⟩
    · omega
    · omega
  exact ⟨window.1, event.1, window.2, event.2⟩

/-! ## The walk (R19, R28) -/

/-- The packing lays out items one after another and stops at the first that does not fit (R26, R28). -/
theorem packItems_laidOut (regions : List Region) (items : List Item) (cur : Cursors) :
    ∃ placed rest last, items = placed ++ rest ∧ laidOut regions placed cur (packItems regions items cur) last ∧
      ∀ item tail, rest = item :: tail → placeItem regions item last = none := by
  induction items generalizing cur with
  | nil => exact ⟨[], [], cur, rfl, rfl, nofun⟩
  | cons item items ih =>
    unfold packItems
    split
    next e next placed =>
      obtain ⟨front, rest, last, rfl, out, stop⟩ := ih next
      exact ⟨item :: front, rest, last, rfl, ⟨next, placed, out⟩, stop⟩
    next stops =>
      refine ⟨[], item :: items, cur, rfl, rfl, fun other tail same => ?_⟩
      obtain rfl := (List.cons.inj same).1
      exact stops

/-- Settles O25: by the definitions of the inputs and of the walk, and by induction on the items that the packing lays out. -/
theorem packingWalks : Obligations.PackingWalks := by
  unfold Obligations.PackingWalks
  refine ⟨fun s => ⟨rfl, rfl, rfl, members_sorted s, fun k c => ?_⟩, fun sl => ?_,
    fun st => ⟨st.holdsWindow_iff, st.participates_iff⟩, EntryKind.isWindow_iff, windowOf_eq_some_iff,
    fun inputs => ⟨sortByBase_perm _, sortByBase_sorted _⟩, fun inputs => List.flatMap_def, packItems_laidOut,
    fun regions item cur next e placed => (placeItem_lays placed).cursors, fun members c sorted => ?_⟩
  · rw [mem_members_iff, SlotState.participates_iff]
  · unfold Slot.classCode
    cases sl.identity <;> rfl
  · refine ⟨slotsOfClass members c.code, ?_, fun k => slotsOfClass_mem, fun anchor => ?_, fun base anchor none => ?_,
      fun base k rest anchor slots => ?_⟩
    · exact List.pairwise_map.mpr (sorted.filter _)
    · rw [groupItems_of_unanchored members c anchor, runItems_eq]
    · rw [groupItems_of_anchored members c anchor, none, runItems_eq]
      rfl
    · rw [groupItems_of_anchored members c anchor, slots, runItems_eq]
      rfl

end Sys2Proof.Machine
end

section
/-! SUPPORT. What a draft of a consistent catalogue keeps (R21, R29, R31), and the proof that it is a consistent layout. -/

namespace Sys2Proof.Machine

-- One proof at a time: many side by side take a thread and its stack each.
set_option Elab.async false

/-! ## What a run of items lays out -/

section
variable {regions : List Region} {items : List Item} {cur last : Cursors} {es : List Entry}

theorem laidOut_cons {item : Item} (h : laidOut regions (item :: items) cur es last) :
    ∃ e rest next, es = e :: rest ∧ item.Lays regions cur e next ∧ laidOut regions items next rest last := by
  cases es with
  | nil => exact h.elim
  | cons e rest =>
    obtain ⟨next, placed, out⟩ := h
    exact ⟨e, rest, next, rfl, placeItem_lays placed, out⟩

theorem laidOut_nil (h : laidOut regions [] cur es last) : es = [] := by
  cases es with
  | nil => rfl
  | cons e rest => exact h.elim

theorem laidOut_length (h : laidOut regions items cur es last) : es.length = items.length := by
  induction items generalizing cur es with
  | nil => rw [laidOut_nil h]; rfl
  | cons item items ih =>
    obtain ⟨e, rest, next, rfl, _, out⟩ := laidOut_cons h
    rw [List.length_cons, List.length_cons, ih out]

theorem laidOut_slots (h : laidOut regions items cur es last) :
    (es.filterMap fun e => e.kind.slot?) = items.filterMap Item.slot? := by
  induction items generalizing cur es with
  | nil => rw [laidOut_nil h]; rfl
  | cons item items ih =>
    obtain ⟨e, rest, next, rfl, lays, out⟩ := laidOut_cons h
    rw [List.filterMap_cons, List.filterMap_cons, ih out, lays.slot]

theorem laidOut_mem (h : laidOut regions items cur es last) {e : Entry} (mem : e ∈ es) :
    ∃ item ∈ items, ∃ before after, item.Lays regions before e after := by
  induction items generalizing cur es with
  | nil => rw [laidOut_nil h] at mem; cases mem
  | cons item items ih =>
    obtain ⟨d, rest, next, rfl, lays, out⟩ := laidOut_cons h
    rcases List.mem_cons.mp mem with rfl | later
    · exact ⟨item, by simp, cur, next, lays⟩
    · obtain ⟨other, among, found⟩ := ih out later
      exact ⟨other, by simp [among], found⟩

/-- An entry stands in the anchor region of its item, or from the window cursor on and clear of every anchor region
(R22, R23). -/
theorem laidOut_place (h : laidOut regions items cur es last) {e : Entry} (mem : e ∈ es) :
    e.region ∈ items.filterMap Item.region? ∨ (cur.window ≤ e.base ∧ ∀ g ∈ regions, Region.Disjoint e.region g) := by
  induction items generalizing cur es with
  | nil => rw [laidOut_nil h] at mem; cases mem
  | cons item items ih =>
    obtain ⟨d, rest, next, rfl, lays, out⟩ := laidOut_cons h
    rcases List.mem_cons.mp mem with rfl | later
    · rcases lays.place with ⟨anchored, _⟩ | ⟨_, above, _, _, clear⟩
      · exact .inl (List.mem_filterMap.mpr ⟨item, by simp, anchored⟩)
      · exact .inr ⟨above, clear⟩
    · rcases ih out later with anchored | ⟨above, clear⟩
      · obtain ⟨other, among, found⟩ := List.mem_filterMap.mp anchored
        exact .inl (List.mem_filterMap.mpr ⟨other, by simp [among], found⟩)
      · exact .inr ⟨lays.cursors.1.trans above, clear⟩

/-- No two entries share a word, where the anchor regions of the items are among those that are to be kept clear and share
none (R22 to R24). -/
theorem laidOut_words (h : laidOut regions items cur es last)
    (kept : ∀ g ∈ items.filterMap Item.region?, g ∈ regions)
    (apart : (items.filterMap Item.region?).Pairwise Region.Disjoint) :
    es.Pairwise fun a b => Region.Disjoint a.region b.region := by
  induction items generalizing cur es with
  | nil => rw [laidOut_nil h]; exact .nil
  | cons item items ih =>
    obtain ⟨d, rest, next, rfl, lays, out⟩ := laidOut_cons h
    have sub : (items.filterMap Item.region?).Sublist ((item :: items).filterMap Item.region?) :=
      (List.sublist_cons_self item items).filterMap _
    refine List.pairwise_cons.mpr ⟨fun e later => ?_, ih out (fun g hg => kept g (sub.subset hg)) (apart.sublist sub)⟩
    rcases lays.place with ⟨anchored, same⟩ | ⟨_, _, _, after, clear⟩
    · rw [List.filterMap_cons_some anchored] at apart kept
      rcases laidOut_place out later with region | ⟨_, clear⟩
      · exact (List.pairwise_cons.mp apart).1 _ region
      · exact (clear d.region (kept _ (by simp))).symm
    · rcases laidOut_place out later with region | ⟨above, _⟩
      · exact clear _ (kept _ (sub.subset region))
      · exact .inl (show d.base + d.size ≤ e.base by omega)

theorem laidOut_events (h : laidOut regions items cur es last) {r : EventRange} (mem : r ∈ es.filterMap Entry.events) :
    cur.event ≤ r.base := by
  induction items generalizing cur es with
  | nil => rw [laidOut_nil h] at mem; cases mem
  | cons item items ih =>
    obtain ⟨d, rest, next, rfl, lays, out⟩ := laidOut_cons h
    rcases lays.events with ⟨without, _⟩ | ⟨range, has, _, above, _, _⟩
    · rw [List.filterMap_cons_none without] at mem
      exact lays.cursors.2.1.trans (ih out mem)
    · rw [List.filterMap_cons_some has] at mem
      rcases List.mem_cons.mp mem with rfl | later
      · exact above
      · exact lays.cursors.2.1.trans (ih out later)

/-- No two entries share an event number (R25, R26). -/
theorem laidOut_numbers (h : laidOut regions items cur es last) :
    (es.filterMap Entry.events).Pairwise EventRange.Disjoint := by
  induction items generalizing cur es with
  | nil => rw [laidOut_nil h]; exact .nil
  | cons item items ih =>
    obtain ⟨d, rest, next, rfl, lays, out⟩ := laidOut_cons h
    rcases lays.events with ⟨without, _⟩ | ⟨range, has, _, _, _, after⟩
    · rw [List.filterMap_cons_none without]
      exact ih out
    · rw [List.filterMap_cons_some has]
      refine List.pairwise_cons.mpr ⟨fun r later => .inl ?_, ih out⟩
      have := laidOut_events out later
      omega

end

/-! ## The items of the walk (R19) -/

section
variable {inputs : DraftInputs}

theorem walkItems_regions : (walkItems inputs).filterMap Item.region? = anchorRegions inputs.catalogue := by
  unfold walkItems anchorRegions
  induction inputs.catalogue with
  | nil => rfl
  | cons c catalogue ih =>
    rw [List.flatMap_cons, List.filterMap_append, groupItems_regions, ih, List.filterMap_cons]
    cases c.region? <;> rfl

/-- The slots of the classes of a catalogue, class after class (R19). -/
def slotsOfCatalogue (members : List Member) (catalogue : List ClassEntry) : List SlotNo :=
  catalogue.flatMap fun c => slotsOfClass members c.code

theorem walkItems_slots :
    (walkItems inputs).filterMap Item.slot? = slotsOfCatalogue inputs.members inputs.catalogue := by
  unfold walkItems slotsOfCatalogue
  induction inputs.catalogue with
  | nil => rfl
  | cons c catalogue ih => rw [List.flatMap_cons, List.filterMap_append, groupItems_slots, ih, List.flatMap_cons]

theorem slotsOfCatalogue_nodup {members : List Member} {catalogue : List ClassEntry}
    (codes : (catalogue.map ClassEntry.code).Nodup) (distinct : (members.map Member.slot).Nodup) :
    (slotsOfCatalogue members catalogue).Nodup := by
  refine List.nodup_flatMap.mpr ⟨fun c _ => distinct.sublist (slotsOfClass_sublist members c.code), ?_⟩
  refine (List.pairwise_map.mp codes).imp fun {c d} other k inC inD => other ?_
  obtain ⟨m, hm, slot, mine⟩ := slotsOfClass_mem.mp inC
  obtain ⟨n, hn, same, code⟩ := slotsOfClass_mem.mp inD
  rw [← mine, ← code, List.inj_on_of_nodup_map distinct hm hn (slot.trans same.symm)]

theorem walk_length (members : List Member) {catalogue : List ClassEntry} (valid : ∀ c ∈ catalogue, c.Valid) :
    (catalogue.flatMap (groupItems members)).length ≤
      (slotsOfCatalogue members catalogue).length + 5 * catalogue.length := by
  unfold slotsOfCatalogue
  induction catalogue with
  | nil => simp
  | cons c catalogue ih =>
    have group := groupItems_length members c
    have reserve := (valid c (by simp)).reserve
    have rest := ih fun d hd => valid d (by simp [hd])
    rw [List.flatMap_cons, List.length_append, List.flatMap_cons, List.length_append, List.length_cons]
    omega

theorem mem_walkItems {item : Item} (h : item ∈ walkItems inputs) :
    item.entry ∈ inputs.catalogue ∧ (∀ r, item.region? = some r → item.entry.anchor = some r.base) ∧
      ∀ k, item.slot? = some k → ⟨k, item.entry.code⟩ ∈ inputs.members := by
  obtain ⟨c, hc, mem⟩ := List.mem_flatMap.mp h
  obtain ⟨rfl, region, slots⟩ := mem_groupItems inputs.members c mem
  refine ⟨hc, region, fun k hk => ?_⟩
  obtain ⟨m, hm, rfl, code⟩ := slotsOfClass_mem.mp (slots k hk)
  rw [← code]
  exact hm

end

/-! ## The draft -/

/-- The entries of a draft as the walk lays them out, before they are put into base order. -/
def DraftInputs.entries (inputs : DraftInputs) : List Entry :=
  packItems (anchorRegions inputs.catalogue) (walkItems inputs) ⟨inputs.runBase, 0⟩

theorem DraftInputs.draft_perm (inputs : DraftInputs) : inputs.draft.Perm inputs.entries := sortByBase_perm _

/-- The entries of a draft are what some first part of the walk lays out (R28). -/
theorem DraftInputs.entries_laidOut (inputs : DraftInputs) :
    ∃ placed last, placed <+: walkItems inputs ∧
      laidOut (anchorRegions inputs.catalogue) placed ⟨inputs.runBase, 0⟩ inputs.entries last := by
  obtain ⟨placed, rest, last, split, out, _⟩ :=
    packItems_laidOut (anchorRegions inputs.catalogue) (walkItems inputs) ⟨inputs.runBase, 0⟩
  exact ⟨placed, last, ⟨rest, split.symm⟩, out⟩

/-- Entries in base order that share no word stand one after another. -/
theorem words_of_sorted {entries : List Entry} (sorted : entries.Pairwise fun a b => a.base ≤ b.base)
    (apart : entries.Pairwise fun a b => Region.Disjoint a.region b.region) (size : ∀ e ∈ entries, 1 ≤ e.size) :
    entries.Pairwise fun a b => a.base + a.size ≤ b.base := by
  refine (sorted.and apart).imp_of_mem fun {a b} _ hb ⟨above, clear⟩ => ?_
  have := size b hb
  rcases clear with before | after
  · exact before
  · have : b.base + b.size ≤ a.base := after
    omega

/-- What an item of the walk lays out is a valid entry of its class (R21, R37). -/
theorem Item.Lays.valid {item : Item} {regions : List Region} {cur next : Cursors} {e : Entry}
    (h : item.Lays regions cur e next) (entry : item.entry.Valid)
    (anchor : ∀ r, item.region? = some r → item.entry.anchor = some r.base) : e.Valid where
  size := by
    rcases h.shape with ⟨_, one, _⟩ | ⟨_, size, _⟩
    · omega
    · have := entry.size
      omega
  extent := by
    rcases h.place with ⟨region, _⟩ | ⟨_, _, fits, _⟩
    · rcases h.shape with ⟨_, _, _, plain⟩ | ⟨_, size, _⟩
      · rw [h.anchored, region] at plain
        cases plain
      · have := (entry.anchor _ (anchor _ region)).2
        have : e.base + item.entry.size ≤ 65536 := this
        omega
    · exact fits
  events := fun r has => by
    rcases h.events with ⟨none, _⟩ | ⟨q, same, positive, _, fits, _⟩
    · rw [none] at has
      cases has
    · obtain rfl := Option.some.inj (has.symm.trans same)
      exact ⟨positive, fits⟩
  fence := fun kind => by
    rcases h.shape with ⟨_, shape⟩ | ⟨other, _⟩
    · exact shape
    · exact absurd kind other
  anchored := h.holder
  held := h.held

/-- An entry of a draft has the size, the alignment and the span of its class, a fence aside, and an anchored one stands
at the anchor (R21, R24). -/
theorem Item.Lays.ofClass {item : Item} {regions : List Region} {cur next : Cursors} {e : Entry}
    (h : item.Lays regions cur e next) (entry : item.entry.Valid)
    (anchor : ∀ r, item.region? = some r → item.entry.anchor = some r.base) :
    (e.anchored = true → item.entry.anchor = some e.base) ∧
    (e.kind = .fence ∨ (e.size = item.entry.size ∧ 2 ^ item.entry.exponent ∣ e.base ∧
      e.events.map EventRange.span = if item.entry.span = 0 then none else some item.entry.span)) := by
  have place : item.region? = some e.region ∨ item.region? = none := by
    rcases h.place with ⟨region, _⟩ | ⟨plain, _⟩
    · exact .inl region
    · exact .inr plain
  constructor
  · intro anchored
    rcases place with region | plain
    · exact anchor _ region
    · rw [h.anchored, plain] at anchored
      cases anchored
  · rcases h.shape with ⟨fence, _⟩ | ⟨_, size, aligned, span⟩
    · exact .inl fence
    · refine .inr ⟨size, ?_, span⟩
      rcases place with region | plain
      · exact Nat.dvd_of_mod_eq_zero (entry.anchor _ (anchor _ region)).1
      · exact aligned plain

section
variable {inputs : DraftInputs} (catalogue : CatalogueConsistent inputs.catalogue)
include catalogue

theorem draft_item {e : Entry} (mem : e ∈ inputs.draft) :
    ∃ item : Item, (∃ regions cur next, item.Lays regions cur e next) ∧ item.entry ∈ inputs.catalogue ∧ item.entry.Valid ∧
      (∀ r, item.region? = some r → item.entry.anchor = some r.base) ∧
      ∀ k, item.slot? = some k → ⟨k, item.entry.code⟩ ∈ inputs.members := by
  obtain ⟨placed, last, first, out⟩ := inputs.entries_laidOut
  obtain ⟨item, among, before, after, lays⟩ := laidOut_mem out (inputs.draft_perm.mem_iff.mp mem)
  obtain ⟨listed, anchor, slots⟩ := mem_walkItems (first.subset among)
  exact ⟨item, ⟨_, before, after, lays⟩, listed, catalogue.valid _ listed, anchor, slots⟩

theorem draft_consistent (distinct : (inputs.members.map Member.slot).Nodup) : LayoutConsistent inputs.draft := by
  obtain ⟨placed, last, first, out⟩ := inputs.entries_laidOut
  have nodup := slotsOfCatalogue_nodup catalogue.codes distinct
  have regions := first.sublist.filterMap Item.region?
  rw [walkItems_regions] at regions
  have valid (e : Entry) (mem : e ∈ inputs.draft) : e.Valid := by
    obtain ⟨item, ⟨_, _, _, lays⟩, _, entry, anchor, _⟩ := draft_item catalogue mem
    exact lays.valid entry anchor
  have apart := laidOut_words out (fun g hg => regions.subset hg) (catalogue.anchors.sublist regions)
  refine
    { length := ?_
      valid := valid
      words := words_of_sorted (sortByBase_sorted _) ((inputs.draft_perm.pairwise_iff Region.Disjoint.symm).mpr apart)
        fun e he => (valid e he).size
      numbers := ?_
      slots := ?_ }
  · have walk := walk_length inputs.members catalogue.valid
    have slots : (slotsOfCatalogue inputs.members inputs.catalogue).length ≤ 16 := nodup.length_le_card
    have := catalogue.length
    rw [inputs.draft_perm.length_eq, laidOut_length out]
    exact first.length_le.trans (walk.trans (by omega))
  · exact ((inputs.draft_perm.filterMap _).pairwise_iff Or.symm).mpr (laidOut_numbers out)
  · rw [(inputs.draft_perm.filterMap _).nodup_iff, laidOut_slots out]
    refine List.Nodup.sublist (first.sublist.filterMap _) ?_
    rw [walkItems_slots]
    exact nodup

end

/-- Settles O26: the packing keeps its entries apart item by item, and the items of the walk are those of the catalogue and
of the participating slots. -/
theorem draftIsConsistent : Obligations.DraftIsConsistent := by
  unfold Obligations.DraftIsConsistent
  intro inputs catalogue distinct
  refine ⟨draft_consistent catalogue distinct, fun e mem => ?_, fun e mem => ?_⟩
  · obtain ⟨item, ⟨_, _, _, lays⟩, _⟩ := draft_item catalogue mem
    exact lays.vacancy
  · obtain ⟨item, ⟨_, _, _, lays⟩, listed, entry, anchor, slots⟩ := draft_item catalogue mem
    obtain ⟨anchored, shape⟩ := lays.ofClass entry anchor
    refine ⟨item.entry, listed, lays.code.symm, anchored, shape, fun k window => ?_⟩
    rw [lays.code]
    exact slots k (by rw [← lays.slot, window]; rfl)

end Sys2Proof.Machine
end

section
/-! SUPPORT. The Active Placement with catalogue and slots (R11, R17, R37, R38): what departures, joins, commits and the edits
of the catalogue keep, and the proof that every step keeps them in agreement. -/

namespace Sys2Proof.Machine

-- One proof at a time: many side by side take a thread and its stack each.
set_option Elab.async false

/-! ## Layouts -/

theorem windowOf_isSome_iff {entries : List Entry} {k : SlotNo} :
    (windowOf entries k).isSome = true ↔ ∃ e ∈ entries, e.kind = .window k := by
  rw [windowOf, List.find?_isSome]
  simp

theorem EntryKind.slot?_eq_some {kind : EntryKind} {k : SlotNo} : kind.slot? = some k ↔ kind = .window k := by
  cases kind <;> simp [EntryKind.slot?]

namespace LayoutConsistent

variable {entries : List Entry}

theorem nil : LayoutConsistent [] := ⟨by simp, by simp, .nil, .nil, .nil⟩

theorem sublist (h : LayoutConsistent entries) {part : List Entry} (sub : part.Sublist entries) :
    LayoutConsistent part where
  length := sub.length_le.trans h.length
  valid := fun e he => h.valid e (sub.subset he)
  words := h.words.sublist sub
  numbers := h.numbers.sublist (sub.filterMap _)
  slots := h.slots.sublist (sub.filterMap _)

/-- A consistent layout holds no entry twice. -/
theorem nodup (h : LayoutConsistent entries) : entries.Nodup := by
  refine h.words.imp_of_mem fun {a b} ha _ apart same => ?_
  have := (h.valid a ha).size
  subst same
  omega

/-- Entries change their kind in place (R43, R48). -/
theorem relabel (h : LayoutConsistent entries) (f : Entry → Entry)
    (place : ∀ e, (f e).base = e.base ∧ (f e).size = e.size ∧ (f e).events = e.events)
    (valid : ∀ e ∈ entries, (f e).Valid) (slots : ((entries.map f).filterMap fun e => e.kind.slot?).Nodup) :
    LayoutConsistent (entries.map f) where
  length := by rw [List.length_map]; exact h.length
  valid := fun e he => by
    obtain ⟨d, hd, rfl⟩ := List.mem_map.mp he
    exact valid d hd
  words := List.pairwise_map.mpr (h.words.imp fun {a b} apart => by
    rw [(place a).1, (place a).2.1, (place b).1]
    exact apart)
  numbers := by
    have same : (entries.map f).filterMap Entry.events = entries.filterMap Entry.events := by
      rw [List.filterMap_map]
      exact List.filterMap_congr fun e _ => (place e).2.2
    rw [same]
    exact h.numbers
  slots := slots

end LayoutConsistent

/-! ## The window of a departed module (R48) -/

@[simp] theorem Entry.vacated_classCode (e : Entry) : e.vacated.classCode = e.classCode := rfl
@[simp] theorem Entry.vacated_size (e : Entry) : e.vacated.size = e.size := rfl
@[simp] theorem Entry.vacated_events (e : Entry) : e.vacated.events = e.events := rfl

theorem Entry.vacated_kind (e : Entry) : e.vacated.kind = .heldAnchor ∨ e.vacated.kind = .vacancy := by
  unfold Entry.vacated
  cases e.anchored
  · exact .inr rfl
  · exact .inl rfl

theorem Entry.Valid.vacated {e : Entry} (h : e.Valid) : e.vacated.Valid where
  size := h.size
  extent := h.extent
  events := h.events
  fence := fun fence => by rcases e.vacated_kind with kind | kind <;> rw [kind] at fence <;> cases fence
  anchored := fun anchored => .inr (if_pos anchored)
  held := fun held => by
    by_contra plain
    unfold Entry.vacated at held plain
    rw [if_neg plain] at held
    cases held

theorem vacate_eq (placement : List Entry) (k : SlotNo) :
    vacate placement k = placement.map fun e => if e.kind = .window k then e.vacated else e := rfl

/-- The windows of the others stay. -/
theorem mem_vacate_window {placement : List Entry} {k j : SlotNo} {e : Entry} :
    (e ∈ vacate placement k ∧ e.kind = .window j) ↔ (e ∈ placement ∧ e.kind = .window j ∧ j ≠ k) := by
  rw [vacate_eq, List.mem_map]
  constructor
  · rintro ⟨⟨d, hd, rfl⟩, kind⟩
    split at kind
    · rcases d.vacated_kind with hole | hole <;> rw [hole] at kind <;> cases kind
    next stays =>
      rw [if_neg stays]
      exact ⟨hd, kind, fun same => stays (same ▸ kind)⟩
  · rintro ⟨he, kind, other⟩
    refine ⟨⟨e, he, if_neg fun own => other ?_⟩, kind⟩
    rw [kind] at own
    injection own

theorem vacate_slots (placement : List Entry) (k : SlotNo) :
    ((vacate placement k).filterMap fun e => e.kind.slot?).Sublist (placement.filterMap fun e => e.kind.slot?) := by
  induction placement with
  | nil => exact .slnil
  | cons e placement ih =>
    rw [vacate_eq, List.map_cons, ← vacate_eq]
    by_cases own : e.kind = .window k
    · have hole : e.vacated.kind.slot? = none := by rcases e.vacated_kind with kind | kind <;> rw [kind] <;> rfl
      rw [if_pos own, List.filterMap_cons_none (f := fun e : Entry => e.kind.slot?) hole]
      exact ih.trans ((List.sublist_cons_self e placement).filterMap _)
    · rw [if_neg own]
      cases slot : e.kind.slot? with
      | none => rw [List.filterMap_cons_none (f := fun e : Entry => e.kind.slot?) slot, List.filterMap_cons_none (f := fun e : Entry => e.kind.slot?) slot]; exact ih
      | some j => rw [List.filterMap_cons_some (f := fun e : Entry => e.kind.slot?) slot, List.filterMap_cons_some (f := fun e : Entry => e.kind.slot?) slot]; exact ih.cons_cons j

theorem LayoutConsistent.vacate {placement : List Entry} (h : LayoutConsistent placement) (k : SlotNo) :
    LayoutConsistent (Machine.vacate placement k) := by
  refine h.relabel _ (fun e => ?_) (fun e he => ?_) (h.slots.sublist (vacate_slots placement k))
  · split <;> exact ⟨rfl, rfl, rfl⟩
  · split
    · exact (h.valid e he).vacated
    · exact h.valid e he

/-! ## The hole that a joining module takes (R42, R43) -/

theorem findHole_eq_some {placement : List Entry} {code : Nat} {hole : Entry}
    (found : findHole placement code = some hole) :
    hole ∈ placement ∧ hole.classCode = code ∧
      (hole.kind = .heldAnchor ∨ hole.kind = .vacancy ∨ hole.kind = .reserve) := by
  have isHole (kind : EntryKind) (h : placement.find? (fun e => e.isHole kind code) = some hole) :
      hole ∈ placement ∧ hole.classCode = code ∧ hole.kind = kind := by
    have is := List.find?_some h
    simp only [Entry.isHole, Bool.and_eq_true, decide_eq_true_eq, beq_iff_eq] at is
    exact ⟨List.mem_of_find?_eq_some h, is.2, is.1⟩
  unfold findHole at found
  simp only [Option.orElse_eq_orElse, Option.orElse_eq_or, Option.or_eq_some_iff] at found
  rcases found with anchor | ⟨_, vacancy | ⟨_, reserve⟩⟩
  · obtain ⟨mem, code, kind⟩ := isHole _ anchor
    exact ⟨mem, code, .inl kind⟩
  · obtain ⟨mem, code, kind⟩ := isHole _ vacancy
    exact ⟨mem, code, .inr (.inl kind)⟩
  · obtain ⟨mem, code, kind⟩ := isHole _ reserve
    exact ⟨mem, code, .inr (.inr kind)⟩

/-- The entry of a joining module, in place of its hole (R43). -/
def Entry.taken (e : Entry) (k : SlotNo) : Entry := { e with kind := .window k }

theorem fillHole_eq (placement : List Entry) (hole : Entry) (k : SlotNo) :
    fillHole placement hole k = placement.map fun e => if e = hole then e.taken k else e := rfl

/-- Where an entry stands once, its hole is the one entry that changes. -/
theorem fillHole_append {before after : List Entry} {hole : Entry} (k : SlotNo)
    (nodup : (before ++ hole :: after).Nodup) :
    fillHole (before ++ hole :: after) hole k = before ++ hole.taken k :: after := by
  have split := List.nodup_middle.mp nodup
  obtain ⟨once, _⟩ := List.nodup_cons.mp split
  have stays (e : Entry) (he : e ∈ before ++ after) : (if e = hole then e.taken k else e) = e :=
    if_neg fun same => once (by rw [← same]; exact he)
  rw [fillHole_eq, List.map_append, List.map_cons, if_pos rfl,
    List.map_congr_left fun e he => stays e (List.mem_append_left _ he),
    List.map_congr_left fun e he => stays e (List.mem_append_right _ he), List.map_id', List.map_id']

theorem mem_fillHole_window {placement : List Entry} {hole : Entry} {k j : SlotNo} {e : Entry}
    (mem : hole ∈ placement) (free : hole.kind.slot? = none) :
    (e ∈ fillHole placement hole k ∧ e.kind = .window j) ↔
      (e = hole.taken k ∧ j = k) ∨ (e ∈ placement ∧ e.kind = .window j) := by
  rw [fillHole_eq, List.mem_map]
  constructor
  · rintro ⟨⟨d, hd, rfl⟩, kind⟩
    split at kind
    next same =>
      subst same
      rw [if_pos rfl]
      refine .inl ⟨rfl, ?_⟩
      injection kind with same
      exact same.symm
    next stays =>
      rw [if_neg stays]
      exact .inr ⟨hd, kind⟩
  · rintro (⟨rfl, rfl⟩ | ⟨he, kind⟩)
    · exact ⟨⟨hole, mem, if_pos rfl⟩, rfl⟩
    · refine ⟨⟨e, he, if_neg ?_⟩, kind⟩
      rintro rfl
      rw [kind] at free
      cases free

theorem LayoutConsistent.fillHole {placement : List Entry} (h : LayoutConsistent placement) {hole : Entry} {k : SlotNo}
    (mem : hole ∈ placement) (free : hole.kind.slot? = none)
    (unplaced : ∀ e ∈ placement, e.kind ≠ .window k) : LayoutConsistent (Machine.fillHole placement hole k) := by
  refine h.relabel _ (fun e => ?_) (fun e he => ?_) ?_
  · split <;> exact ⟨rfl, rfl, rfl⟩
  · split
    · have valid := h.valid e he
      exact ⟨valid.size, valid.extent, valid.events, nofun, fun _ => .inl rfl, nofun⟩
    · exact h.valid e he
  · obtain ⟨before, after, rfl⟩ := List.append_of_mem mem
    have slots := h.slots
    change ((Machine.fillHole (before ++ hole :: after) hole k).filterMap fun e => e.kind.slot?).Nodup
    rw [fillHole_append k h.nodup]
    rw [List.filterMap_append, List.filterMap_cons_none (f := fun e : Entry => e.kind.slot?) free, ← List.filterMap_append] at slots
    rw [List.filterMap_append, List.filterMap_cons_some (f := fun e : Entry => e.kind.slot?) (b := k) rfl, List.nodup_middle,
      ← List.filterMap_append]
    refine List.nodup_cons.mpr ⟨fun placed => ?_, slots⟩
    obtain ⟨e, he, slot⟩ := List.mem_filterMap.mp placed
    refine unplaced e ?_ (EntryKind.slot?_eq_some.mp slot)
    rcases List.mem_append.mp he with first | later
    · exact List.mem_append_left _ first
    · exact List.mem_append_right _ (List.mem_cons_of_mem _ later)

/-! ## The unused entries of a class (R6, R9) -/

theorem mem_withoutUnused {placement : List Entry} {code : Nat} {e : Entry} :
    e ∈ withoutUnused placement code ↔ e ∈ placement ∧ (e.kind.isWindow = true ∨ e.classCode ≠ code) := by
  simp [withoutUnused]

theorem mem_withoutUnused_window {placement : List Entry} {code : Nat} {k : SlotNo} {e : Entry} :
    (e ∈ withoutUnused placement code ∧ e.kind = .window k) ↔ (e ∈ placement ∧ e.kind = .window k) := by
  rw [mem_withoutUnused]
  constructor
  · rintro ⟨⟨he, _⟩, kind⟩
    exact ⟨he, kind⟩
  · rintro ⟨he, kind⟩
    exact ⟨⟨he, .inl (EntryKind.isWindow_iff _ |>.mpr ⟨k, kind⟩)⟩, kind⟩

/-! ## The catalogue entry of a class (R11) -/

theorem PlacementEngine.lookup_congr {pe pe' : PlacementEngine} (same : pe'.catalogue = pe.catalogue) (code : Nat) :
    pe'.lookup code = pe.lookup code := by rw [PlacementEngine.lookup, PlacementEngine.lookup, same]

theorem PlacementEngine.lookup_eq_some_iff {pe : PlacementEngine} (h : CatalogueConsistent pe.catalogue) {code : Nat}
    {c : ClassEntry} : pe.lookup code = some c ↔ c ∈ pe.catalogue ∧ c.code = code := by
  unfold PlacementEngine.lookup
  constructor
  · intro found
    exact ⟨List.mem_of_find?_eq_some found, by simpa using List.find?_some found⟩
  · rintro ⟨mem, rfl⟩
    cases found : pe.catalogue.find? fun d => d.code == c.code with
    | none => simpa using List.find?_eq_none.mp found c mem
    | some d => rw [h.eq_of_code_eq (List.mem_of_find?_eq_some found) mem (by simpa using List.find?_some found)]

/-! ## What the placement sees of a slot -/

/-- What the layout depends on of an identity (R17, R79). -/
def Identity.claim (id : Identity) : Nat × Nat := (id.classCode, id.eventCount)

/-- Two Slot Controllers that mean the same to the layout. -/
structure Slot.SameRole (a b : Slot) : Prop where
  participates : b.state.participates = a.state.participates
  holdsWindow : b.state.holdsWindow = a.state.holdsWindow
  claim : b.identity.map Identity.claim = a.identity.map Identity.claim

theorem Slot.SameRole.refl (sl : Slot) : sl.SameRole sl := ⟨rfl, rfl, rfl⟩

theorem Slot.SameRole.trans {a b c : Slot} (h : a.SameRole b) (g : b.SameRole c) : a.SameRole c :=
  ⟨g.participates.trans h.participates, g.holdsWindow.trans h.holdsWindow, g.claim.trans h.claim⟩

theorem Slot.Alike.sameRole {a b : Slot} (h : a.Alike b) : a.SameRole b :=
  ⟨by rw [h.state], by rw [h.state], by rw [h.identity]⟩

theorem Slot.classCode_eq_claim (sl : Slot) : sl.classCode = ((sl.identity.map Identity.claim).map Prod.fst).getD 0 := by
  unfold Slot.classCode
  cases sl.identity <;> rfl

theorem Slot.SameRole.classCode {a b : Slot} (h : a.SameRole b) : b.classCode = a.classCode := by
  rw [Slot.classCode_eq_claim, Slot.classCode_eq_claim, h.claim]

/-- The catalogue, the layout, and what the slots mean to it stay. -/
structure State.Steady (s t : State) : Prop where
  catalogue : t.pe.catalogue = s.pe.catalogue
  placement : t.pe.placement = s.pe.placement
  roles : ∀ j, (s.slot j).SameRole (t.slot j)

theorem State.Steady.refl (s : State) : s.Steady s := ⟨rfl, rfl, fun _ => .refl _⟩

theorem State.Steady.trans {s t u : State} (h : s.Steady t) (g : t.Steady u) : s.Steady u :=
  ⟨g.catalogue.trans h.catalogue, g.placement.trans h.placement, fun j => (h.roles j).trans (g.roles j)⟩

theorem State.Steady.of_alike {s t : State} (slots : s.SlotsAlike t) (pe : t.pe = s.pe) : s.Steady t :=
  ⟨by rw [pe], by rw [pe], fun j => (slots j).sameRole⟩

theorem State.Steady.of_slots {s t : State} (slots : t.slots = s.slots) (pe : t.pe = s.pe) : s.Steady t :=
  .of_alike (.of_slots slots) pe

theorem State.modSlot_steady (s : State) (k : SlotNo) {f : Slot → Slot} (h : (s.slot k).SameRole (f (s.slot k))) :
    s.Steady (s.modSlot k f) := by
  refine ⟨rfl, rfl, fun j => ?_⟩
  rw [State.slot_modSlot]
  split
  next same => rw [same]; exact h
  next => exact .refl _

theorem State.modLane_steady (s : State) (k : SlotNo) (f : Lane → Lane) : s.Steady (s.modLane k f) :=
  s.modSlot_steady k ⟨rfl, rfl, rfl⟩

theorem State.countLane_steady (s : State) (k : SlotNo) (f : LaneCounters → LaneCounters) : s.Steady (s.countLane k f) :=
  s.modLane_steady k _

theorem State.countUngood_steady (s : State) (k : SlotNo) : s.Steady (s.countUngood k) := s.countLane_steady k _

theorem State.post_steady (s : State) (kind : NoticeKind) : s.Steady (s.post kind) := .of_slots rfl rfl

theorem State.endTenure_steady (s : State) (k : SlotNo) (status : Status) : s.Steady (s.endTenure k status) :=
  .of_slots (s.endTenure_spec k status).slots (s.endTenure_spec k status).pe

theorem State.withTransaction_steady (s : State) (tag : Byte) (f : State → Transaction → State)
    (each : ∀ t, s.Steady (f s t)) : s.Steady (s.withTransaction tag f) := by
  unfold State.withTransaction
  split
  · exact each _
  · exact .refl s

theorem State.endAccess_steady (s : State) (x : Exchange) (tag : Byte) (f : LaneFrame) :
    s.Steady (s.endAccess x tag f) := by
  refine s.withTransaction_steady tag _ fun t => ?_
  unfold State.completeTransaction
  split
  · exact .of_slots rfl rfl
  · split
    · exact .of_slots rfl rfl
    · split <;> exact .of_slots rfl rfl

theorem State.laneTransmit_steady (s : State) (k : SlotNo) : s.Steady (s.laneTransmit k) :=
  .of_alike (s.laneTransmit_alike k) (s.laneTransmit_laneWork k).pe

/-- The going on of a lane sets halt sent at most (R73, R87). -/
theorem State.advance_steady (s : State) (k : SlotNo) : s.Steady (s.advance k) := by
  unfold State.advance
  dsimp only
  refine State.Steady.trans ?_ (State.laneTransmit_steady _ k)
  split
  · exact .refl s
  · split
    next kind begins =>
      refine (s.modLane_steady k fun l => l.start kind).trans ?_
      generalize started : s.modLane k (fun l => l.start kind) = u
      have state : (u.slot k).state = (s.slot k).state := by rw [← started, State.slot_modLane_self]
      rcases s.nextExchange_cases k kind begins with ⟨_, rfl⟩ | ⟨_, rfl⟩ | ⟨_, _, t, _, rfl⟩ | ⟨_, draining, _, rfl⟩
      · exact .refl _
      · exact .of_alike (u.countLane_alike k _) rfl
      · rw [State.exchangeBegun_access]
        exact .of_slots rfl rfl
      · rw [draining] at state
        exact u.modSlot_steady k (f := fun sl => sl.enter (.draining true)) ⟨by rw [state]; rfl, by rw [state]; rfl, rfl⟩
    next => exact .refl s

theorem State.endCancelledExchange_steady (s : State) (k : SlotNo) (x : Exchange) :
    s.Steady (s.endCancelledExchange k x) := by
  unfold State.endCancelledExchange
  dsimp only
  split
  · exact (s.modLane_steady k _).trans (State.withTransaction_steady _ _ _ fun _ => .of_slots rfl rfl)
  · exact s.modLane_steady k _

theorem State.expireCancelled_steady (s : State) (k : SlotNo) (x : Exchange) : s.Steady (s.expireCancelled k x) :=
  (s.modLane_steady k _).trans (State.endCancelledExchange_steady _ k x)

theorem State.cancelExchange_steady (s : State) (k : SlotNo) : s.Steady (s.cancelExchange k) := by
  have marked := s.modLane_steady k Lane.cancel
  unfold State.cancelExchange
  dsimp only
  split
  · split
    · exact (marked.trans (State.expireCancelled_steady _ k _)).trans (State.advance_steady _ k)
    · exact marked
  · exact marked

theorem State.judgeEvent_pe (s : State) (k : SlotNo) (f : LaneFrame) : (s.judgeEvent k f).pe = s.pe := by
  unfold State.judgeEvent State.newEvent
  dsimp only
  split
  · rfl
  · split
    · rfl
    · rfl
    · split
      · rfl
      · split
        · rfl
        · split
          · rfl
          · split
            · rfl
            · split <;> rfl

/-! ## Departures, joins and commits keep the agreement -/

@[simp] theorem Slot.commit_identity (sl : Slot) (fitted : Bool) : (sl.commit fitted).identity = sl.identity := by
  unfold Slot.commit
  split
  · rfl
  · split <;> rfl
  · split <;> rfl
  · rfl

/-- A slot that takes no part in the layout holds no window (R38). -/
theorem SlotState.holdsWindow_of_not_participates {st : SlotState} (out : st.participates = false) :
    st.holdsWindow = false := by
  cases holds : st.holdsWindow with
  | false => rfl
  | true => rw [SlotState.participates_of_holdsWindow holds] at out; cases out

namespace State.PlacementInvariant

variable {s t : State} (h : s.PlacementInvariant)
include h

theorem steady (g : s.Steady t) : t.PlacementInvariant where
  consistent := ⟨by rw [g.catalogue]; exact h.consistent.catalogue, by rw [g.placement]; exact h.consistent.layout⟩
  agrees :=
    { classes := by rw [g.catalogue, g.placement]; exact h.agrees.classes
      windows := fun k => by rw [g.placement, (g.roles k).holdsWindow]; exact h.agrees.windows k
      windowClass := fun e he k kind => by
        rw [g.placement] at he
        rw [(g.roles k).classCode]
        exact h.agrees.windowClass e he k kind
      members := fun k part => by
        rw [(g.roles k).participates] at part
        obtain ⟨id, identity, c, lookup, span⟩ := h.agrees.members k part
        have claim := (g.roles k).claim
        rw [identity] at claim
        obtain ⟨new, recorded, same⟩ := Option.map_eq_some_iff.mp claim
        obtain ⟨code, count⟩ := Prod.mk.inj same
        refine ⟨new, recorded, c, ?_, by rw [count]; exact span⟩
        rw [PlacementEngine.lookup_congr g.catalogue, code]
        exact lookup }

/-- A slot has a WINDOW exactly while it holds one (R38). -/
theorem window_iff (k : SlotNo) :
    (∃ e ∈ s.pe.placement, e.kind = .window k) ↔ (s.slot k).state.holdsWindow = true := by
  rw [← windowOf_isSome_iff, h.agrees.windows]

theorem unplaced {k : SlotNo} (idle : (s.slot k).state.holdsWindow = false) (e : Entry) (he : e ∈ s.pe.placement) :
    e.kind ≠ .window k := fun kind => by
  have := (h.window_iff k).mp ⟨e, he, kind⟩
  rw [idle] at this
  cases this

/-- A slot that takes no part in the layout changes to another such state, its identity with it. -/
theorem modSlot_idle {k : SlotNo} {f : Slot → Slot} (before : (s.slot k).state.participates = false)
    (after : (f (s.slot k)).state.participates = false) : (s.modSlot k f).PlacementInvariant := by
  have idle {st : SlotState} := SlotState.holdsWindow_of_not_participates (st := st)
  have slot (j : SlotNo) (other : j ≠ k) : (s.modSlot k f).slot j = s.slot j := State.slot_modSlot_ne _ _ other
  refine ⟨⟨h.consistent.catalogue, h.consistent.layout⟩, h.agrees.classes, fun j => ?_, fun e he j kind => ?_,
    fun j part => ?_⟩
  · by_cases same : j = k
    · subst same
      rw [State.modSlot_pe, h.agrees.windows, State.slot_modSlot_self, idle before, idle after]
    · rw [slot j same]
      exact h.agrees.windows j
  · by_cases same : j = k
    · subst same
      exact absurd kind (h.unplaced (idle before) e he)
    · rw [slot j same]
      exact h.agrees.windowClass e he j kind
  · by_cases same : j = k
    · subst same
      rw [State.slot_modSlot_self, after] at part
      cases part
    · rw [slot j same] at part ⊢
      exact h.agrees.members j part

theorem vacate_placement (k : SlotNo) :
    (if (s.slot k).state.holdsWindow then vacate s.pe.placement k else s.pe.placement) = vacate s.pe.placement k := by
  split
  · rfl
  next idle =>
    have stays (e : Entry) (he : e ∈ s.pe.placement) : (if e.kind = .window k then e.vacated else e) = e :=
      if_neg (h.unplaced (by simpa using idle) e he)
    rw [vacate_eq, List.map_congr_left stays, List.map_id']

/-- A departure leaves a hole of the class of its window (R48, R49). -/
theorem leave (k : SlotNo) {st : SlotState} (out : st.participates = false) : (s.leave k st).PlacementInvariant := by
  have slot (j : SlotNo) (other : j ≠ k) : (s.leave k st).slot j = s.slot j := State.slot_leave_ne _ _ _ other
  have placement : (s.leave k st).pe.placement = vacate s.pe.placement k := by
    rw [State.leave_eq]
    exact h.vacate_placement k
  have catalogue : (s.leave k st).pe.catalogue = s.pe.catalogue := by rw [State.leave_eq]; rfl
  have idle := SlotState.holdsWindow_of_not_participates out
  refine ⟨⟨by rw [catalogue]; exact h.consistent.catalogue, by rw [placement]; exact h.consistent.layout.vacate k⟩,
    fun e he => ?_, fun j => ?_, fun e he j kind => ?_, fun j part => ?_⟩
  · rw [placement, vacate_eq] at he
    obtain ⟨d, hd, rfl⟩ := List.mem_map.mp he
    obtain ⟨c, hc, code, shape⟩ := h.agrees.classes d hd
    rw [catalogue]
    split
    next own =>
      exact ⟨c, hc, code, .inr (shape.resolve_left (by rw [own]; simp))⟩
    next => exact ⟨c, hc, code, shape⟩
  · rw [Bool.eq_iff_iff, windowOf_isSome_iff, placement]
    simp only [mem_vacate_window]
    by_cases same : j = k
    · subst same
      simp [idle]
    · rw [slot j same, ← h.window_iff]
      simp [same]
  · rw [placement] at he
    obtain ⟨he, kind, other⟩ := mem_vacate_window.mp ⟨he, kind⟩
    rw [slot j other]
    exact h.agrees.windowClass e he j kind
  · by_cases same : j = k
    · subst same
      rw [State.slot_leave_self, Slot.enter_state, out] at part
      cases part
    · rw [slot j same] at part ⊢
      simp only [PlacementEngine.lookup_congr catalogue]
      exact h.agrees.members j part

theorem enterFailed (k : SlotNo) (reason : FailReason) : (s.enterFailed k reason).PlacementInvariant := by
  have rest {u : State} (h : u.PlacementInvariant) :
      (((u.modLane k Lane.abandon).leave k (.failed reason)).post (.slotFailed k reason)).PlacementInvariant :=
    ((h.steady (u.modLane_steady k _)).leave k rfl).steady (State.post_steady _ _)
  unfold State.enterFailed
  dsimp only
  split
  · exact rest (h.steady (s.endTenure_steady k _))
  · exact rest h

theorem countFailure (k : SlotNo) : (s.countFailure k).PlacementInvariant := by
  have counted := h.steady (s.modSlot_steady k (f := fun sl => { sl with failures := sl.failures + 1 }) ⟨rfl, rfl, rfl⟩)
  unfold State.countFailure
  dsimp only
  split
  · exact counted.steady (State.modLane_steady _ k _)
  · exact counted.enterFailed k _

theorem endRelease (k : SlotNo) (outcome : ReleaseOutcome) : (s.endRelease k outcome).PlacementInvariant :=
  (h.leave k rfl).steady (State.post_steady _ _)

/-- A commit installs the draft, and each slot holds the window the draft gives it (R50). -/
theorem commit (mark : CommitMark) : (s.commit mark).PlacementInvariant := by
  obtain ⟨layout, _, entries⟩ := draftIsConsistent s.draftInputs h.consistent.catalogue (members_nodup s)
  have member (e : Entry) (he : e ∈ s.draftInputs.draft) (k : SlotNo) (kind : e.kind = .window k) :
      (s.slot k).state.participates = true ∧ (s.slot k).classCode = e.classCode := by
    obtain ⟨_, _, _, _, _, slots⟩ := entries e he
    exact (mem_members_iff s k e.classCode).mp (slots k kind)
  refine ⟨⟨by rw [State.commit_catalogue]; exact h.consistent.catalogue, by rw [State.commit_placement]; exact layout⟩,
    fun e he => ?_, fun k => ?_, fun e he k kind => ?_, fun k part => ?_⟩
  · rw [State.commit_placement] at he
    obtain ⟨c, hc, code, _, shape, _⟩ := entries e he
    rw [State.commit_catalogue]
    exact ⟨c, hc, code, shape.imp id fun ⟨size, _, span⟩ => ⟨size, span⟩⟩
  · rw [State.commit_placement, State.slot_commit]
    cases part : (s.slot k).state.participates with
    | true =>
      rw [Slot.commit_state part]
      cases fitted : (windowOf s.draftInputs.draft k).isSome with
      | true => cases (s.slot k).state <;> rfl
      | false => rfl
    | false =>
      rw [Slot.commit_of_not_participates part, ← h.agrees.windows k, Bool.eq_iff_iff, windowOf_isSome_iff, h.agrees.windows]
      constructor
      · rintro ⟨e, he, kind⟩
        rw [(member e he k kind).1] at part
        cases part
      · intro holds
        rw [SlotState.participates_of_holdsWindow holds] at part
        cases part
  · rw [State.commit_placement] at he
    rw [State.slot_commit, ← (member e he k kind).2, Slot.classCode, Slot.classCode, Slot.commit_identity]
  · rw [State.slot_commit] at part
    simp only [State.slot_commit, Slot.commit_identity, PlacementEngine.lookup_congr (s.commit_catalogue mark)]
    refine h.agrees.members k ?_
    cases old : (s.slot k).state.participates with
    | true => rfl
    | false => rw [Slot.commit_of_not_participates old, old] at part; cases part

theorem filled {k : SlotNo} (pending : (s.slot k).state = .pending .awaitingCommit) {hole : Entry}
    (mem : hole ∈ s.pe.placement) (code : (s.slot k).classCode = hole.classCode)
    (kind : hole.kind = .heldAnchor ∨ hole.kind = .vacancy ∨ hole.kind = .reserve) :
    (s.filled hole k).PlacementInvariant := by
  have free : hole.kind.slot? = none := by rcases kind with kind | kind | kind <;> rw [kind] <;> rfl
  have unplaced := h.unplaced (k := k) (by rw [pending]; rfl)
  refine ⟨⟨h.consistent.catalogue, h.consistent.layout.fillHole mem free unplaced⟩, fun e he => ?_, fun j => ?_,
    fun e he j window => ?_, fun j part => ?_⟩
  · change e ∈ fillHole s.pe.placement hole k at he
    rw [fillHole_eq] at he
    obtain ⟨d, hd, rfl⟩ := List.mem_map.mp he
    obtain ⟨c, hc, same, shape⟩ := h.agrees.classes d hd
    split
    next own =>
      subst own
      refine ⟨c, hc, same, .inr (shape.resolve_left ?_)⟩
      rcases kind with kind | kind | kind <;> simp [kind]
    next => exact ⟨c, hc, same, shape⟩
  · rw [Bool.eq_iff_iff, windowOf_isSome_iff, State.slot_filled]
    change (∃ e ∈ fillHole s.pe.placement hole k, e.kind = .window j) ↔ _
    simp only [mem_fillHole_window mem free]
    split
    next same => simp [same, SlotState.holdsWindow]
    next other => simp [other, h.window_iff]
  · rw [State.slot_filled]
    rcases (mem_fillHole_window mem free).mp ⟨he, window⟩ with ⟨rfl, rfl⟩ | ⟨old, kind⟩
    · rw [if_pos rfl]
      exact code
    · rw [if_neg (by rintro rfl; exact unplaced e old kind)]
      exact h.agrees.windowClass e old j kind
  · rw [State.slot_filled] at part ⊢
    split
    next same =>
      exact h.agrees.members k (by rw [pending]; rfl)
    next other =>
      rw [if_neg other] at part
      exact h.agrees.members j part

/-! ### Joins (R42 to R46) -/

section
variable {k : SlotNo} (out : (s.slot k).state.participates = false) {id : Identity}
  (identity : (s.slot k).identity = some id) {c : ClassEntry} (known : s.pe.lookup id.classCode = some c)
  (span : id.eventCount ≤ c.span)
include out identity known span

theorem entered : (s.entered k).PlacementInvariant := by
  have idle := SlotState.holdsWindow_of_not_participates out
  refine ⟨⟨h.consistent.catalogue, h.consistent.layout⟩, h.agrees.classes, fun j => ?_, fun e he j kind => ?_,
    fun j part => ?_⟩
  · rw [State.slot_entered]
    split
    next same =>
      subst same
      exact (h.agrees.windows j).trans idle
    next => exact h.agrees.windows j
  · rw [State.slot_entered, if_neg]
    · exact h.agrees.windowClass e he j kind
    · rintro rfl
      exact h.unplaced idle e he kind
  · rw [State.slot_entered] at part ⊢
    split at part
    next same =>
      rw [if_pos same]
      exact ⟨id, identity, c, known, span⟩
    next other =>
      rw [if_neg other]
      exact h.agrees.members j part

theorem join : (s.join k).PlacementInvariant := by
  have entered := h.entered out identity known span
  have state : ((s.entered k).slot k).state = .pending .awaitingCommit := by
    rw [State.slot_entered, if_pos rfl, Slot.enter_state]
  rcases s.join_cases k with ⟨hole, found, eq⟩ | eq | ⟨_, _, _, eq⟩
  · rw [eq]
    refine State.PlacementInvariant.steady ?_ (State.post_steady _ _)
    obtain ⟨mem, code, kind⟩ := findHole_eq_some found
    have code : ((s.entered k).slot k).classCode = hole.classCode := by
      rw [code, State.slot_entered, if_pos rfl]
      rfl
    exact entered.filled state mem code kind
  · rw [eq]
    exact (entered.steady (State.post_steady _ _)).steady (State.post_steady _ _)
  · rw [eq]
    exact (entered.commit _).steady (State.post_steady _ _)

end

end State.PlacementInvariant

end Sys2Proof.Machine
end

section
/-! SUPPORT. The Active Placement after each kind of step, and the proof that every step keeps it in agreement with the
catalogue and the slots (R11, R17, R37, R38). -/

namespace Sys2Proof.Machine

-- One proof at a time: many side by side take a thread and its stack each.
set_option Elab.async false

namespace State.PlacementInvariant

variable {s : State} (h : s.PlacementInvariant)
include h

/-! ## Judgements (R64, R79) -/

theorem judge {k : SlotNo} (out : (s.slot k).state.participates = false) {id : Identity}
    (identity : (s.slot k).identity = some id) : (s.judge k id).PlacementInvariant := by
  unfold State.judge
  split
  · exact h.modSlot_idle out rfl
  next c known =>
    split
    · exact h.enterFailed k _
    next span => exact h.join out identity known (by omega)

theorem newJoin {k : SlotNo} (out : (s.slot k).state.participates = false) (id : Identity) :
    (s.newJoin k id).PlacementInvariant := by
  refine (h.modSlot_idle out out).judge ?_ ?_
  · rw [State.slot_modSlot_self]
    exact out
  · rw [State.slot_modSlot_self]

theorem resyncIdent (k : SlotNo) (id : Identity) : (s.resyncIdent k id).PlacementInvariant := by
  unfold State.resyncIdent
  split
  next confirmed =>
    refine h.steady (s.modSlot_steady k ⟨rfl, rfl, ?_⟩)
    cases identity : (s.slot k).identity with
    | none => rw [identity] at confirmed; cases confirmed
    | some old =>
      rw [identity] at confirmed
      simpa [Identity.same, Identity.claim] using confirmed
  next =>
    have left := (h.steady (s.endTenure_steady k .moduleGone)).leave k (st := .probing) rfl
    refine (left.steady (State.post_steady _ _)).newJoin ?_ id
    rw [State.slot_post, State.slot_leave_self]
    rfl

/-! ## The ends of exchanges -/

theorem matchedAnswer {k : SlotNo} {x : Exchange} (fits : x.Fits (s.slot k).state) (f : LaneFrame) :
    (s.matchedAnswer k x f).PlacementInvariant := by
  have freed := h.steady
    (s.modSlot_steady k (f := fun sl => { sl with failures := 0, lane := sl.lane.endMatched x.kind }) ⟨rfl, rfl, rfl⟩)
  unfold State.matchedAnswer
  dsimp only
  split
  next kind =>
    refine freed.newJoin ?_ _
    rw [State.slot_modSlot_self]
    change (s.slot k).state.participates = false
    rw [(Exchange.suits_first kind _).mp fits.suits]
    rfl
  · exact (freed.steady (State.modLane_steady _ k _)).resyncIdent k _
  · exact freed.steady (State.endAccess_steady _ _ _ _)
  · exact freed.steady (State.endAccess_steady _ _ _ _)
  · split
    · exact freed.steady (State.modLane_steady _ k _)
    · exact freed.endRelease k _

theorem failAccess (k : SlotNo) (tag : Byte) (status : Status) : (s.failAccess k tag status).PlacementInvariant :=
  (h.steady (s.withTransaction_steady tag _ fun _ => .of_slots rfl rfl)).countFailure k

theorem failExchange (k : SlotNo) (x : Exchange) (status : Status) :
    (s.failExchange k x status).PlacementInvariant := by
  have freed := h.steady (s.modLane_steady k Lane.endUnmatched)
  unfold State.failExchange
  dsimp only
  split
  · exact freed.enterFailed k _
  · exact freed.countFailure k
  · exact freed.failAccess k _ _
  · exact freed.failAccess k _ _
  · split
    · exact freed.steady (State.modLane_steady _ k _)
    · exact freed.endRelease k _

theorem judgeAnswer {k : SlotNo} (sound : (s.slot k).Sound) (f : LaneFrame) :
    (s.judgeAnswer k f).PlacementInvariant := by
  have stale := h.steady (s.countLane_steady k fun c => { c with staleAnswers := bump c.staleAnswers })
  unfold State.judgeAnswer
  dsimp only
  split
  · exact stale
  next x exchange =>
    split
    · exact stale
    · split
      · exact stale
      · split
        · exact h.matchedAnswer (sound.exchange x exchange) f
        · have counted := h.steady (s.countLane_steady k fun c => { c with protocolErrors := bump c.protocolErrors })
          unfold State.wrongAnswer
          dsimp only
          split
          · exact counted.steady (State.expireCancelled_steady _ k x)
          · exact counted.failExchange k x _

theorem judgeFrame {k : SlotNo} (sound : (s.slot k).Sound) (received : List Byte) :
    (s.judgeFrame k received).PlacementInvariant := by
  unfold State.judgeFrame
  split
  · exact h.steady (s.countUngood_steady k)
  · split
    · exact h.steady (s.countUngood_steady k)
    next f _ =>
      have counted := s.countLane_alike k fun c => { c with receivedFrames := bump c.receivedFrames }
      have h' := h.steady (.of_alike counted rfl)
      dsimp only
      split
      · exact h'.steady (.of_alike (State.judgeEvent_alike _ k f) (State.judgeEvent_pe _ k f))
      · exact h'.judgeAnswer ((counted k).sound sound) f

theorem takeLaneByte {k : SlotNo} (sound : (s.slot k).Sound) (b : Byte) : (s.takeLaneByte k b).PlacementInvariant := by
  have received (r : LaneReceiver) : s.SlotsAlike (s.setLaneReceiver k r) := State.modLane_alike
  have h' (r : LaneReceiver) := h.steady (.of_alike (received r) rfl)
  unfold State.takeLaneByte
  split
  · exact h
  · exact h' _
  · exact (h' _).steady (State.countUngood_steady _ k)
  · exact ((h' _).judgeFrame ((received _ k).sound sound) _).steady (State.advance_steady _ k)

theorem replyExpired (k : SlotNo) (x : Exchange) : (s.replyExpired k x).PlacementInvariant := by
  unfold State.replyExpired
  split
  · exact h.steady (s.expireCancelled_steady k x)
  · split
    · exact h.steady (s.modLane_steady k _)
    · exact (h.steady (s.modLane_steady k _)).failExchange k x _

/-! ## Slots that begin, are reset, or lose their module -/

theorem enterProbing (k : SlotNo) : (s.enterProbing k).PlacementInvariant := by
  refine State.PlacementInvariant.steady ?_ (State.advance_steady _ k)
  exact ((h.steady (s.modLane_steady k _)).leave k rfl).steady (State.modSlot_steady _ k ⟨rfl, rfl, rfl⟩)

theorem losePresence (k : SlotNo) : (s.losePresence k).PlacementInvariant := by
  have left := (((h.steady (s.endTenure_steady k .moduleGone)).steady (State.modLane_steady _ k Lane.quiesce)).leave k
    (st := .empty) rfl).steady (State.post_steady _ (.moduleLeft k (s.slot k).classCode .presenceLost))
  unfold State.losePresence
  dsimp only
  refine left.modSlot_idle ?_ ?_
  · rw [State.slot_post, State.slot_leave_self]
    rfl
  · rw [State.slot_post, State.slot_leave_self]
    rfl

theorem restart (scope : RestartScope) : (s.restart scope).PlacementInvariant := by
  have out (k : SlotNo) : ((s.restart scope).slot k).state.participates = false := by
    rw [State.slot_restart]
    cases high : (s.slot k).presence <;> simp [Slot.restart, high, SlotState.participates]
  have placement : (s.restart scope).pe.placement = [] := rfl
  refine ⟨⟨?_, by rw [placement]; exact .nil⟩, ?_, fun k => ?_, ?_, fun k part => ?_⟩
  · rw [State.restart_catalogue]
    split
    · exact .nil
    · exact h.consistent.catalogue
  · rw [placement]; nofun
  · rw [placement, SlotState.holdsWindow_of_not_participates (out k)]
    rfl
  · rw [placement]; nofun
  · rw [out k] at part
    cases part

/-! ## The catalogue (R5, R6, R9) -/

/-- A class that no participating slot carries is taken out, with its unused entries, and possibly redefined. -/
theorem edit {catalogue : List ClassEntry} {code stamp : Nat} (unused : ¬s.Carried code)
    (consistent : CatalogueConsistent catalogue) (kept : ∀ c ∈ s.pe.catalogue, c.code ≠ code → c ∈ catalogue) :
    State.PlacementInvariant
      { s with pe := { s.pe with placement := withoutUnused s.pe.placement code, catalogue := catalogue, stamp := stamp } } := by
  have other (k : SlotNo) (part : (s.slot k).state.participates = true) : (s.slot k).classCode ≠ code :=
    fun same => unused ⟨k, part, same⟩
  refine ⟨⟨consistent, h.consistent.layout.sublist List.filter_sublist⟩, fun e he => ?_, fun k => ?_,
    fun e he k kind => ?_, fun k part => ?_⟩
  · obtain ⟨he, used⟩ := mem_withoutUnused.mp he
    obtain ⟨c, hc, same, shape⟩ := h.agrees.classes e he
    refine ⟨c, kept c hc ?_, same, shape⟩
    rw [same]
    rcases used with window | foreign
    · obtain ⟨k, kind⟩ := (EntryKind.isWindow_iff _).mp window
      rw [← h.agrees.windowClass e he k kind]
      exact other k (SlotState.participates_of_holdsWindow ((h.window_iff k).mp ⟨e, he, kind⟩))
    · exact foreign
  · rw [Bool.eq_iff_iff, windowOf_isSome_iff]
    change (∃ e ∈ withoutUnused s.pe.placement code, e.kind = .window k) ↔ (s.slot k).state.holdsWindow = true
    simp only [mem_withoutUnused_window]
    exact h.window_iff k
  · exact h.agrees.windowClass e (mem_withoutUnused_window.mp ⟨he, kind⟩).1 k kind
  · obtain ⟨id, identity, c, known, span⟩ := h.agrees.members k part
    obtain ⟨hc, same⟩ := (PlacementEngine.lookup_eq_some_iff h.consistent.catalogue).mp known
    refine ⟨id, identity, c, (PlacementEngine.lookup_eq_some_iff consistent).mpr ⟨kept c hc ?_, same⟩, span⟩
    have code : (s.slot k).classCode = id.classCode := by rw [Slot.classCode, identity]; rfl
    rw [same, ← code]
    exact other k part

/-- More classes in the catalogue take nothing away. -/
theorem extend {catalogue : List ClassEntry} {stamp : Nat} (consistent : CatalogueConsistent catalogue)
    (kept : ∀ c ∈ s.pe.catalogue, c ∈ catalogue) :
    State.PlacementInvariant { s with pe := { s.pe with catalogue := catalogue, stamp := stamp } } := by
  refine ⟨⟨consistent, h.consistent.layout⟩, fun e he => ?_, h.agrees.windows, h.agrees.windowClass, fun k part => ?_⟩
  · obtain ⟨c, hc, shape⟩ := h.agrees.classes e he
    exact ⟨c, kept c hc, shape⟩
  · obtain ⟨id, identity, c, known, span⟩ := h.agrees.members k part
    obtain ⟨hc, same⟩ := (PlacementEngine.lookup_eq_some_iff h.consistent.catalogue).mp known
    exact ⟨id, identity, c, (PlacementEngine.lookup_eq_some_iff consistent).mpr ⟨kept c hc, same⟩, span⟩

theorem rejudge {k : SlotNo} (unknown : (s.slot k).state = .unknownClass) : (s.rejudge k).PlacementInvariant := by
  unfold State.rejudge
  split
  next id identity => exact h.judge (by rw [unknown]; rfl) identity
  next => exact h

omit h in
theorem foldl_rejudge {slots : List SlotNo} (nodup : slots.Nodup) {s : State} (h : s.PlacementInvariant)
    (unknown : ∀ k ∈ slots, (s.slot k).state = .unknownClass) : (slots.foldl State.rejudge s).PlacementInvariant := by
  induction slots generalizing s with
  | nil => exact h
  | cons k slots ih =>
    obtain ⟨fresh, nodup⟩ := List.nodup_cons.mp nodup
    refine ih nodup (h.rejudge (unknown k List.mem_cons_self)) fun i hi => ?_
    have state := unknown i (List.mem_cons_of_mem k hi)
    rw [State.slot_rejudge_ne (by rintro rfl; exact fresh hi) (by rw [state]; rfl), state]

theorem addClass {c : ClassEntry} (consistent : CatalogueConsistent (insertByRank c s.pe.catalogue)) :
    (s.addClass c).PlacementInvariant := by
  have added := h.extend (stamp := nextStamp s.pe.stamp) consistent fun d hd =>
    (insertByRank_perm c s.pe.catalogue).mem_iff.mpr (List.mem_cons_of_mem c hd)
  exact foldl_rejudge (State.waitingFor_nodup _ _) added fun _ mem => State.state_of_mem_waitingFor mem

end State.PlacementInvariant

/-! ## Every step -/

theorem State.accept_steady (s : State) (tag : Byte) (kind : AccessKind) (k : SlotNo) (offset count : Nat)
    (data : List Word) : s.Steady (s.accept tag kind k offset count data) := by
  rw [State.accept_eq]
  refine State.Steady.trans ?_ (State.advance_steady _ k)
  exact .of_slots rfl rfl

/-- The serving of a request keeps the Active Placement in agreement. -/
theorem State.Serves.placement {s t : State} {r : HostRequest} {q : Request} (serves : s.Serves r q t)
    (h : s.PlacementInvariant) : t.PlacementInvariant := by
  have answered {u : State} {status : Status} {fields : ReplyFields} (g : u.PlacementInvariant) :
      (u.answer r status fields).PlacementInvariant := g.steady (.of_slots rfl rfl)
  cases serves with
  | answered => exact answered h
  | params f p _ =>
    refine answered (h.steady ?_)
    unfold State.setParams
    dsimp only
    split <;> exact ⟨rfl, rfl, fun _ => .refl _⟩
  | restarted _ scope => exact answered (h.restart scope)
  | redefined f c valid passed known =>
    obtain ⟨rfl, inRange⟩ := ClassFields.check_eq_some valid
    obtain ⟨_, _, _, unused⟩ := State.refuseDefine_eq_none.mp passed
    refine answered (h.edit (fun carried => unused ⟨known, carried⟩) (h.consistent.catalogue.define inRange passed)
      fun d hd other => ?_)
    exact (insertByRank_perm _ _).mem_iff.mpr (List.mem_cons_of_mem _ (mem_withoutClass.mpr ⟨hd, other⟩))
  | created f c valid passed new =>
    obtain ⟨rfl, inRange⟩ := ClassFields.check_eq_some valid
    have defined := h.consistent.catalogue.define inRange passed
    rw [withoutClass_of_new (code := f.code) fun d hd same => new ⟨d, hd, same⟩] at defined
    exact answered (h.addClass defined)
  | dropped code unused =>
    exact answered (h.edit unused (h.consistent.catalogue.withoutClass code) fun d hd other =>
      mem_withoutClass.mpr ⟨hd, other⟩)
  | committed => exact answered (h.commit _)
  | acknowledged => exact answered (h.steady (.of_slots rfl rfl))
  | resent => exact answered (h.steady (.of_slots rfl rfl))
  | enabled => exact answered (h.steady (.of_slots rfl rfl))
  | linkCleared => exact answered (h.steady (.of_slots rfl rfl))
  | laneCleared q k => exact answered (h.steady (s.modLane_steady k _))
  | probed q k _ => exact answered ((h.steady (s.endTenure_steady k _)).enterProbing k)
  | released q k placed =>
    have draining := h.steady (s.modSlot_steady k (f := fun sl => sl.enter (.draining false))
      ⟨by rw [placed]; rfl, by rw [placed]; rfl, rfl⟩)
    exact (answered draining).steady (State.advance_steady _ k)
  | accepted q kind view address count offset k data => exact h.steady (s.accept_steady _ kind k offset count data)
  | withdrawn q t =>
    have ended : s.Steady (s.endCancelled t .notSent) := .of_slots rfl rfl
    exact (answered (h.steady ended)).steady (State.advance_steady _ _)
  | cancelled q t =>
    have marked : s.Steady (s.setTransactionState t.tag .cancelling) := .of_slots rfl rfl
    exact (answered (h.steady marked)).steady (State.cancelExchange_steady _ _)

/-- An event of the part keeps the Active Placement in agreement. -/
theorem State.Happens.placement {s u : State} {c : Instr} (happens : s.Happens c u) (h : s.PlacementInvariant)
    (slots : ∀ k, (s.slot k).Consistent) : u.PlacementInvariant := by
  cases happens with
  | hostByteReceived line =>
    exact h.steady (.of_slots (s.takeHostByte_linkWork _).slots (s.takeHostByte_linkWork _).pe)
  | gapTimerExpiry => exact h.steady (.of_slots rfl rfl)
  | hostFrameSent f => exact h.steady (.of_slots (s.hostFrameSent_slots _) (s.hostFrameSent_pe _))
  | presenceRise k state => exact h.modSlot_idle (by rw [state]; rfl) rfl
  | presenceLoss k => exact h.losePresence k
  | settlePeriodExpiry k => exact h.enterProbing k
  | laneByteReceived k line => exact h.takeLaneByte (slots k).sound _
  | laneSilenceTimeout k => exact (h.steady (s.modLane_steady k _)).steady (State.countUngood_steady _ k)
  | replyTimeExpiry k x => exact (h.replyExpired k x).steady (State.advance_steady _ k)
  | laneFrameSent k f => exact (h.steady (s.modLane_steady k _)).steady (State.laneTransmit_steady _ k)

theorem State.powerOn_placement (pending : List Instr) : (State.powerOn pending).PlacementInvariant where
  consistent := ⟨.nil, .nil⟩
  agrees :=
    { classes := nofun
      windows := fun k => by rw [State.slot_powerOn]; rfl
      windowClass := nofun
      members := fun k part => by rw [State.slot_powerOn] at part; cases part }

/-- The slots that begin a settle period took no part in the layout, and take none (R81). -/
theorem State.started_steady {s : State} (powerOn : s = State.powerOn s.pending) (rate1 rate0 : Bool)
    (presence : BitVec 16) : s.Steady (s.started rate1 rate0 presence) := by
  refine ⟨rfl, rfl, fun k => ?_⟩
  have slot : s.slot k = Slot.powerOn := by rw [powerOn, State.slot_powerOn]
  rw [State.slot_started, slot]
  split <;> exact ⟨rfl, rfl, rfl⟩

theorem State.transmit_steady (s : State) : s.Steady s.transmit :=
  ⟨by rw [State.transmit_pe], by rw [State.transmit_pe], fun k => by rw [State.slot_transmit]; exact .refl _⟩

theorem exec_placementInvariant {c : Instr} {s t : State} (slots : s.SlotsInvariant) (h : s.PlacementInvariant)
    (next : exec c s = .next t) : t.PlacementInvariant := by
  rcases exec_cases next with rfl | ⟨_, rfl⟩ | ⟨rate1, rate0, presence, _, held, rfl⟩ | ⟨r, _, _, rfl⟩ |
    ⟨_, u, happens, rfl⟩
  · exact h
  · exact State.powerOn_placement _
  · exact h.steady (State.started_steady (slots.held held) rate1 rate0 presence)
  · have dropped : s.dropHead.PlacementInvariant := h.steady (.of_slots rfl rfl)
    exact ((State.serve_serves _ r _).placement dropped).steady (State.transmit_steady _)
  · exact (happens.placement h slots.slots).steady (State.transmit_steady _)

/-- Settles O58: departures, joins, commits and the edits of the catalogue keep the agreement, and every other change means
the same to the layout. -/
theorem placementStaysConsistent : Obligations.PlacementStaysConsistent := by
  unfold Obligations.PlacementStaysConsistent
  intro s t slots h next
  rcases step_cases next with ⟨_, rfl⟩ | ⟨c, rest, _, run⟩
  · exact h
  · refine exec_placementInvariant (slots.dequeue rest) (h.steady ?_) run
    exact .of_slots rfl rfl

end Sys2Proof.Machine
end

section
/-! SUPPORT. What every step keeps of the numbers and of the configuration, and the proofs of the statements about them. -/

namespace Sys2Proof.Machine

-- One proof at a time: many side by side take a thread and its stack each.
set_option Elab.async false

/-! ## The numbers in their ranges (R40, R41, R59, R103, R154) -/

theorem nextGeneration_le {n : Nat} : nextGeneration n ≤ 65535 := by
  unfold nextGeneration Config.max16
  split <;> omega

theorem nextStamp_le {n : Nat} : nextStamp n ≤ 65535 := by
  unfold nextStamp Config.max16
  split <;> omega

theorem bumpSinceNotice_le {n : Nat} : bumpSinceNotice n ≤ 4 := by
  unfold bumpSinceNotice Config.noticeTurn
  split <;> omega

theorem Slot.commit_bounded {sl : Slot} (h : sl.Bounded) (fitted : Bool) : (sl.commit fitted).Bounded := by
  have same : (sl.commit fitted).joinCount = sl.joinCount ∧ (sl.commit fitted).lane.counters = sl.lane.counters := by
    unfold Slot.commit
    split
    · exact ⟨rfl, rfl⟩
    · split <;> exact ⟨rfl, rfl⟩
    · split <;> exact ⟨rfl, rfl⟩
    · exact ⟨rfl, rfl⟩
  exact ⟨by rw [same.1]; exact h.joinCount, by rw [same.2]; exact h.counters⟩

namespace State.NumbersInRange

variable {s t : State} (h : s.NumbersInRange)

theorem of_bounded (generation : s.pe.generation ≤ 65535) (stamp : s.pe.stamp ≤ 65535)
    (slots : ∀ k, (s.slot k).Bounded) (since : s.hli.sinceNotice ≤ 4)
    (counters : ∀ n ∈ s.hli.counters.toList, n ≤ 4294967295) : s.NumbersInRange :=
  ⟨generation, stamp, fun k => (slots k).joinCount, since, counters, fun k => (slots k).counters⟩

include h

theorem slots (k : SlotNo) : (s.slot k).Bounded := ⟨h.joinCounts k, h.laneCounters k⟩

/-- Other pieces of the state do not matter. -/
theorem congr (generation : t.pe.generation = s.pe.generation) (stamp : t.pe.stamp = s.pe.stamp)
    (slots : t.slots = s.slots) (since : t.hli.sinceNotice = s.hli.sinceNotice)
    (counters : t.hli.counters = s.hli.counters) : t.NumbersInRange :=
  of_bounded (by rw [generation]; exact h.generation) (by rw [stamp]; exact h.stamp)
    (fun k => by rw [State.slot_congr slots]; exact h.slots k) (by rw [since]; exact h.sinceNotice)
    (by rw [counters]; exact h.linkCounters)

theorem answer (r : HostRequest) (status : Status) (fields : ReplyFields) : (s.answer r status fields).NumbersInRange :=
  h.congr rfl rfl rfl rfl rfl

theorem commit (mark : CommitMark) : (s.commit mark).NumbersInRange :=
  of_bounded (by rw [State.commit_generation]; exact nextGeneration_le) (by rw [State.commit_stamp]; exact nextStamp_le)
    (fun k => by rw [State.slot_commit]; exact Slot.commit_bounded (h.slots k) _)
    (by rw [State.commit_hli]; exact h.sinceNotice) (by rw [State.commit_hli]; exact h.linkCounters)

theorem works (w : s.Works t) : t.NumbersInRange := by
  induction w with
  | refl => exact h
  | trans _ _ first second => exact second (first h)
  | slot s k f bounded =>
    refine of_bounded h.generation h.stamp (fun j => ?_) h.sinceNotice h.linkCounters
    rw [State.slot_modSlot]
    split
    · exact bounded (h.slots k)
    · exact h.slots j
  | layout s placement stamp next =>
    refine of_bounded h.generation ?_ h.slots h.sinceNotice h.linkCounters
    rcases next with rfl | rfl
    · exact h.stamp
    · exact nextStamp_le
  | commit s _ => exact h.commit _
  | post => exact h.congr rfl rfl rfl rfl rfl
  | event => exact h.congr rfl rfl rfl rfl rfl
  | ending => exact h.congr rfl rfl rfl rfl rfl
  | endTenure s k status =>
    have ended := s.endTenure_spec k status
    exact h.congr (by rw [ended.pe]) (by rw [ended.pe]) ended.slots (by rw [ended.hli]) (by rw [ended.hli])
  | mark => exact h.congr rfl rfl rfl rfl rfl
  | store => exact h.congr rfl rfl rfl rfl rfl

theorem bumpStamp {pe : PlacementEngine} (generation : pe.generation = s.pe.generation) :
    (State.bumpStamp { s with pe := pe }).NumbersInRange :=
  of_bounded (generation.trans_le h.generation) nextStamp_le h.slots h.sinceNotice h.linkCounters

end State.NumbersInRange

/-! ## What the serving of a request does to the Host Link -/

/-- Of the Host Link, only the replies, the frame being sent and the counters, which can be cleared. -/
structure State.LinkServed (s t : State) : Prop where
  rest : t.hli = { s.hli with replies := t.hli.replies, sending := t.hli.sending, counters := t.hli.counters }
  counters : t.hli.counters = s.hli.counters ∨ t.hli.counters = {}

theorem State.LinkServed.of_replies {s t : State} (same : t.hli = { s.hli with replies := t.hli.replies }) :
    s.LinkServed t := ⟨by rw [same], .inl (by rw [same])⟩

theorem State.Works.linkServed {s t : State} (works : s.Works t) : s.LinkServed t := .of_replies works.link.hli

theorem State.LinkServed.trans {s t u : State} (h : s.LinkServed t) (g : t.LinkServed u) : s.LinkServed u := by
  refine ⟨by rw [g.rest, h.rest], ?_⟩
  rcases g.counters with same | cleared
  · rw [same]
    exact h.counters
  · exact .inr cleared

theorem State.restart_pe (s : State) (scope : RestartScope) :
    (s.restart scope).pe =
      ⟨if scope = .full then [] else s.pe.catalogue, [], nextGeneration s.pe.generation, nextStamp s.pe.stamp⟩ := by
  obtain ⟨_, _, pe, _⟩ := State.abortQueues_keeps slotNumbers s
  simp only [State.restart, State.forgetNotice, pe]

theorem State.restart_counters (s : State) (scope : RestartScope) : (s.restart scope).hli.counters = {} := rfl

theorem State.restart_linkServed (s : State) (scope : RestartScope) : s.LinkServed (s.restart scope) := by
  obtain ⟨_, _, _, _, _, _, hli⟩ := State.abortQueues_keeps slotNumbers s
  unfold State.restart
  dsimp only
  generalize slotNumbers.foldl (fun s k => s.abortQueue k) s = u at *
  refine ⟨?_, .inr rfl⟩
  simp only [State.forgetNotice]
  rw [hli]

theorem State.Serves.linkServed {s t : State} {r : HostRequest} {q : Request} (serves : s.Serves r q t) :
    s.LinkServed t := by
  have answered {u : State} {status : Status} {fields : ReplyFields} (h : s.LinkServed u) :
      s.LinkServed (u.answer r status fields) := h.trans (.of_replies rfl)
  have same (u : State) (h : u.hli = s.hli) : s.LinkServed u := .of_replies (by rw [h])
  cases serves with
  | answered => exact .of_replies rfl
  | params f p => exact answered (same _ (State.setParams_hli p))
  | restarted n scope => exact answered (s.restart_linkServed scope)
  | redefined => exact .of_replies rfl
  | created f c => exact answered (same _ (s.addClass_keepsTraffic c).hli)
  | dropped => exact .of_replies rfl
  | committed => exact answered (same _ (State.commit_hli s _))
  | acknowledged => exact ⟨rfl, .inl rfl⟩
  | resent => exact .of_replies rfl
  | enabled => exact .of_replies rfl
  | linkCleared => exact ⟨rfl, .inr rfl⟩
  | laneCleared => exact .of_replies rfl
  | probed q k => exact answered ((State.Works.endTenure s k _).trans (State.enterProbing_works _ k)).linkServed
  | released q k =>
    exact (answered (State.Works.modSlot s k _).linkServed).trans (State.advance_works _ k).linkServed
  | accepted q kind view address count offset k data =>
    rw [State.accept_eq]
    have admitted : s.LinkServed (s.admitted r.tag kind k offset count data) := .of_replies rfl
    exact admitted.trans (State.advance_works _ k).linkServed
  | withdrawn q t present =>
    exact (answered (State.endCancelled_works present _).linkServed).trans (State.advance_works _ _).linkServed
  | cancelled q t =>
    exact (answered (State.Works.mark s t.tag .cancelling).linkServed).trans (State.cancelExchange_works _ _).linkServed

/-! ## The numbers after each kind of step -/

theorem State.NumbersInRange.restart {s : State} (h : s.NumbersInRange) (scope : RestartScope) :
    (s.restart scope).NumbersInRange := by
  refine .of_bounded ?_ ?_ (fun k => ?_) ?_ ?_
  · rw [State.restart_pe]
    exact nextGeneration_le
  · rw [State.restart_pe]
    exact nextStamp_le
  · rw [State.slot_restart]
    exact ⟨(h.slots k).joinCount, by simp [Slot.restart, LaneCounters.toList]⟩
  · rw [(s.restart_linkServed scope).rest]
    exact h.sinceNotice
  · rw [State.restart_counters]
    simp [LinkCounters.toList]

theorem State.Serves.numbers {s t : State} {r : HostRequest} {q : Request} (serves : s.Serves r q t)
    (h : s.NumbersInRange) : t.NumbersInRange := by
  cases serves with
  | answered => exact h.answer r _ _
  | params f p =>
    refine State.NumbersInRange.answer ?_ r _ _
    unfold State.setParams
    dsimp only
    split
    · exact State.NumbersInRange.congr (State.NumbersInRange.bumpStamp (pe := s.pe) h rfl) rfl rfl rfl rfl rfl
    · exact h.congr rfl rfl rfl rfl rfl
  | restarted n scope =>
    exact (h.restart scope).answer r _ _
  | redefined f c =>
    exact State.NumbersInRange.answer (h.bumpStamp (pe := { s.pe with
      placement := withoutUnused s.pe.placement c.code, catalogue := insertByRank c (withoutClass s.pe.catalogue c.code) })
      rfl) r _ _
  | created f c =>
    exact ((h.congr (t := { s with pe := { s.pe with catalogue := insertByRank c s.pe.catalogue } }) rfl rfl rfl rfl
      rfl).works ((State.Works.bumpStamp _).trans (State.foldl_rejudge_works _ _))).answer r _ _
  | dropped code =>
    exact State.NumbersInRange.answer (h.bumpStamp (pe := { s.pe with
      placement := withoutUnused s.pe.placement code, catalogue := withoutClass s.pe.catalogue code }) rfl) r _ _
  | committed => exact (h.commit _).answer r _ _
  | acknowledged => exact h.congr rfl rfl rfl rfl rfl
  | resent => exact h.congr rfl rfl rfl rfl rfl
  | enabled => exact h.congr rfl rfl rfl rfl rfl
  | linkCleared =>
    refine State.NumbersInRange.answer ?_ r _ _
    exact .of_bounded h.generation h.stamp h.slots h.sinceNotice (by simp [LinkCounters.toList])
  | laneCleared q k =>
    exact (h.works (State.Works.countLane s k _ fun _ => by simp [LaneCounters.toList])).answer r _ _
  | probed q k => exact (h.works ((State.Works.endTenure s k _).trans (State.enterProbing_works _ k))).answer r _ _
  | released q k =>
    exact ((h.works (State.Works.modSlot s k _)).answer r _ _).works (State.advance_works _ k)
  | accepted q kind view address count offset k data =>
    rw [State.accept_eq]
    refine State.NumbersInRange.works ?_ (State.advance_works _ k)
    exact h.congr rfl rfl rfl rfl rfl
  | withdrawn q t present =>
    exact ((h.works (State.endCancelled_works present _)).answer r _ _).works (State.advance_works _ _)
  | cancelled q t =>
    exact ((h.works (.mark s t.tag .cancelling)).answer r _ _).works (State.cancelExchange_works _ _)

/-- The link counters after one more count. -/
theorem LinkCounters.bounded_of_forall {c d : LinkCounters} (each : ∀ n ∈ d.toList, n ∈ c.toList ∨ ∃ m, n = bump m)
    (h : ∀ n ∈ c.toList, n ≤ 4294967295) : ∀ n ∈ d.toList, n ≤ 4294967295 := by
  intro n hn
  rcases each n hn with old | ⟨m, rfl⟩
  · exact h n old
  · exact bump_le m

theorem State.countLink_bounded {s : State} (h : ∀ n ∈ s.hli.counters.toList, n ≤ 4294967295)
    {f : LinkCounters → LinkCounters} (each : ∀ c, ∀ n ∈ (f c).toList, n ∈ c.toList ∨ ∃ m, n = bump m) :
    ∀ n ∈ (s.countLink f).hli.counters.toList, n ≤ 4294967295 :=
  LinkCounters.bounded_of_forall (each s.hli.counters) h

theorem State.refuse_counters {s : State} (h : ∀ n ∈ s.hli.counters.toList, n ≤ 4294967295) (r : HostRequest)
    (status : Status) : ∀ n ∈ (s.refuse r status).hli.counters.toList, n ≤ 4294967295 := by
  unfold State.refuse
  split
  · exact h
  · exact State.countLink_bounded (each := fun _ => by simp [LinkCounters.toList]) h

theorem State.takeHostByte_counters {s : State} (h : ∀ n ∈ s.hli.counters.toList, n ≤ 4294967295) (b : Byte) :
    ∀ n ∈ (s.takeHostByte b).hli.counters.toList, n ≤ 4294967295 := by
  have hunting : ∀ n ∈ (s.setReceiver .hunting).hli.counters.toList, n ≤ 4294967295 := h
  unfold State.takeHostByte
  split
  · exact h
  · exact State.countLink_bounded hunting fun _ => by simp [LinkCounters.toList]
  · unfold State.judgeHostFrame
    dsimp only
    split
    · unfold State.arrive
      have good : ∀ n ∈ ((s.setReceiver .hunting).countLink fun c =>
          { c with goodFrames := bump c.goodFrames }).hli.counters.toList, n ≤ 4294967295 := by
        exact State.countLink_bounded hunting fun _ => by simp [LinkCounters.toList]
      split
      · exact State.refuse_counters good _ _
      · split
        · exact State.refuse_counters good _ _
        · exact good
    · exact State.countLink_bounded hunting fun _ => by simp [LinkCounters.toList]

theorem State.hostFrameSent_numbers {s : State} (h : s.NumbersInRange) (source : FrameSource) :
    (s.hostFrameSent source).NumbersInRange := by
  have pe := s.hostFrameSent_pe source
  refine .of_bounded (by rw [pe]; exact h.generation) (by rw [pe]; exact h.stamp) (fun k => ?_) ?_ ?_
  · rw [State.slot_congr (s.hostFrameSent_slots source)]
    exact h.slots k
  · cases source with
    | refusal => exact bumpSinceNotice_le
    | reply => exact bumpSinceNotice_le
    | notice => exact Nat.zero_le _
    | noticeRemoved => exact Nat.zero_le _
  · cases source with
    | reply =>
      simp only [State.hostFrameSent, State.replySent, State.countSinceNotice]
      split <;> exact h.linkCounters
    | _ => exact h.linkCounters

theorem State.Happens.numbers {s u : State} {c : Instr} (happens : s.Happens c u) (h : s.NumbersInRange) :
    u.NumbersInRange := by
  cases happens with
  | hostByteReceived line =>
    have link := s.takeHostByte_linkWork (byteOnLine line)
    exact .of_bounded (by rw [link.pe]; exact h.generation) (by rw [link.pe]; exact h.stamp)
      (fun k => by rw [State.slot_congr link.slots]; exact h.slots k) (by rw [link.sinceNotice]; exact h.sinceNotice)
      (State.takeHostByte_counters h.linkCounters _)
  | gapTimerExpiry =>
    exact .of_bounded h.generation h.stamp h.slots h.sinceNotice
      (State.countLink_bounded (s := s.setReceiver .hunting) (each := fun _ => by simp [LinkCounters.toList]) h.linkCounters)
  | hostFrameSent f => exact State.hostFrameSent_numbers h f.source
  | presenceRise k => exact h.works (State.Works.modSlot s k _)
  | presenceLoss k => exact h.works (s.losePresence_works k)
  | settlePeriodExpiry k => exact h.works (s.enterProbing_works k)
  | laneByteReceived k line => exact h.works (s.takeLaneByte_works k _)
  | laneSilenceTimeout k => exact h.works ((s.setLaneReceiver_works k _).trans (State.countUngood_works _ k))
  | replyTimeExpiry k x => exact h.works ((s.replyExpired_works k x).trans (State.advance_works _ k))
  | laneFrameSent k f => exact h.works ((s.frameSent_works k f).trans (State.laneTransmit_works _ k))

theorem State.transmit_numbers {s : State} (h : s.NumbersInRange) : s.transmit.NumbersInRange :=
  h.congr (by rw [State.transmit_pe]) (by rw [State.transmit_pe]) s.transmit_slots s.transmit_sinceNotice
    s.transmit_counters

theorem State.powerOn_numbers (pending : List Instr) : (State.powerOn pending).NumbersInRange :=
  .of_bounded (Nat.zero_le _) (Nat.zero_le _)
    (fun k => by
      rw [State.slot_powerOn]
      exact ⟨Nat.zero_le _, by simp [Slot.powerOn, Lane.powerOn, LaneCounters.toList]⟩)
    (Nat.zero_le _) (by simp [State.powerOn, HostLink.powerOn, LinkCounters.toList])

theorem State.started_numbers {s : State} (h : s.NumbersInRange) (rate1 rate0 : Bool) (presence : BitVec 16) :
    (s.started rate1 rate0 presence).NumbersInRange :=
  .of_bounded h.generation h.stamp
    (fun k => by
      rw [State.slot_started]
      split
      · exact ⟨(h.slots k).joinCount, (h.slots k).counters⟩
      · exact h.slots k)
    h.sinceNotice h.linkCounters

theorem exec_numbers {c : Instr} {s t : State} (params : s.params.InRange) (h : s.NumbersInRange)
    (next : exec c s = .next t) : t.params.InRange ∧ t.NumbersInRange := by
  rcases exec_cases next with rfl | ⟨_, rfl⟩ | ⟨rate1, rate0, presence, _, _, rfl⟩ | ⟨r, _, _, rfl⟩ |
    ⟨_, u, happens, rfl⟩
  · exact ⟨params, h⟩
  · exact ⟨Params.powerOn_inRange, State.powerOn_numbers _⟩
  · exact ⟨params, State.started_numbers h rate1 rate0 presence⟩
  · have serves := State.serve_serves s.dropHead r (decodeRequest r)
    refine ⟨?_, State.transmit_numbers (serves.numbers (h.congr rfl rfl rfl rfl rfl))⟩
    rw [State.transmit_params]
    rcases serves.kept.params with same | ⟨_, _, range⟩
    · rw [same]; exact params
    · exact range
  · exact ⟨by rw [State.transmit_params, happens.fixed.params]; exact params, State.transmit_numbers (happens.numbers h)⟩

/-- Settles O54: by the definitions of the numbers, and because each change that a step is made of keeps them in range. -/
theorem numbersStayInRange : Obligations.NumbersStayInRange := by
  unfold Obligations.NumbersStayInRange
  refine ⟨fun n bound => ⟨?_, ?_, ?_, ?_⟩, fun n => ⟨?_, ?_⟩, fun s t params h next => ?_⟩
  · unfold nextGeneration Config.max16
    split_ifs <;> omega
  · unfold nextStamp Config.max16
    split_ifs <;> omega
  · unfold nextJoinCount Config.max16
    split_ifs <;> omega
  · unfold nextSequence Config.max16
    split_ifs <;> omega
  · unfold bump Config.counterMax
    split_ifs <;> omega
  · unfold bumpSinceNotice Config.noticeTurn
    split_ifs <;> omega
  · rcases step_cases next with ⟨_, rfl⟩ | ⟨c, rest, _, run⟩
    · exact ⟨params, h⟩
    · exact exec_numbers (s := { s with pending := rest }) params (h.congr rfl rfl rfl rfl rfl) run

end Sys2Proof.Machine
end

section
/-! SUPPORT. The statements about every command: that it completes, where its step cannot come about, what it leaves of the
configuration, and what the power-on reset does. -/

namespace Sys2Proof.Machine

-- One proof at a time: many side by side take a thread and its stack each.
set_option Elab.async false

/-! ## Every command completes -/

theorem State.take_next (s : State) (f : HostRequest → Request → State → Option State) : ∃ t, s.take f = .next t := by
  unfold State.take
  split
  · exact ⟨s, rfl⟩
  · split
    · exact ⟨_, rfl⟩
    · exact ⟨s, rfl⟩

theorem State.event_next (s : State) (f : State → Option State) : ∃ t, s.event f = .next t := by
  unfold State.event
  split
  · exact ⟨s, rfl⟩
  · split
    · exact ⟨_, rfl⟩
    · exact ⟨s, rfl⟩

theorem State.slotEvent_next (s : State) (n : Nat) (f : SlotNo → State → Option State) :
    ∃ t, s.slotEvent n f = .next t := by
  unfold State.slotEvent
  split
  · exact s.event_next _
  · exact ⟨s, rfl⟩

/-- No command faults or is refused. -/
theorem exec_next (c : Instr) (s : State) : ∃ t, exec c s = .next t := by
  cases c with
  | powerOnReset => exact ⟨_, rfl⟩
  | resetEnd rate1 rate0 presence =>
    cases held : s.held with
    | true => exact ⟨_, exec_resetEnd_of_held held rate1 rate0 presence⟩
    | false => exact ⟨s, exec_resetEnd_of_running held rate1 rate0 presence⟩
  | hostByteReceived line => rw [exec_hostByteReceived]; exact s.event_next _
  | gapTimerExpiry => rw [exec_gapTimerExpiry]; exact s.event_next _
  | hostFrameSent => rw [exec_hostFrameSent]; exact s.event_next _
  | presenceRise n => rw [exec_presenceRise]; exact s.slotEvent_next n _
  | presenceLoss n => rw [exec_presenceLoss]; exact s.slotEvent_next n _
  | settlePeriodExpiry n => rw [exec_settlePeriodExpiry]; exact s.slotEvent_next n _
  | laneByteReceived n line => rw [exec_laneByteReceived]; exact s.slotEvent_next n _
  | laneSilenceTimeout n => rw [exec_laneSilenceTimeout]; exact s.slotEvent_next n _
  | replyTimeExpiry n => rw [exec_replyTimeExpiry]; exact s.slotEvent_next n _
  | laneFrameSent n => rw [exec_laneFrameSent]; exact s.slotEvent_next n _
  | _ => simp only [exec]; exact s.take_next _

theorem exec_pending {c : Instr} {s t : State} (next : exec c s = .next t) : t.pending = s.pending := by
  rcases exec_cases next with rfl | ⟨_, rfl⟩ | ⟨_, _, _, _, _, rfl⟩ | ⟨r, _, _, rfl⟩ | ⟨_, u, happens, rfl⟩
  · rfl
  · rfl
  · rfl
  · rw [State.transmit_pending, (State.serve_serves s.dropHead r (decodeRequest r)).kept.pending]
    rfl
  · rw [State.transmit_pending, happens.fixed.pending]

/-- Settles O2: by the kinds of commands, and because no operation of a step touches the queue of commands. -/
theorem everyCommandCompletes : Obligations.EveryCommandCompletes := by
  unfold Obligations.EveryCommandCompletes
  intro c s
  obtain ⟨t, next⟩ := exec_next c s
  exact ⟨t, next, exec_pending next⟩

/-! ## Steps that cannot come about (log 1, 3, 6, 14, 15) -/

/-- While the power-on reset is applied, only its own two commands do anything (R165). -/
theorem exec_of_held {c : Instr} {s : State} (held : s.held = true) (reset : c ≠ .powerOnReset)
    (resetEnd : ∀ a b p, c ≠ .resetEnd a b p) : exec c s = .next s := by
  obtain ⟨t, next⟩ := exec_next c s
  rcases exec_cases next with rfl | ⟨same, _⟩ | ⟨a, b, p, same, _⟩ | ⟨r, offer, _⟩ | ⟨running, _⟩
  · exact next
  · exact absurd same reset
  · exact absurd same (resetEnd a b p)
  · rw [offer.running] at held
    cases held
  · rw [running] at held
    cases held

theorem State.slotEvent_of_no_slot {s : State} {n : Nat} (large : ¬n < Config.slotCount)
    (f : SlotNo → State → Option State) : s.slotEvent n f = .next s := by
  have none : slotNo? n = none := slotNo?_ge (by simpa [Config.slotCount] using large)
  unfold State.slotEvent
  rw [none]

/-- A slot event does nothing where no slot is named, or its cause is absent. -/
theorem State.slotEvent_of_none {s : State} {n : Nat} {f : SlotNo → State → Option State}
    (absent : ∀ k, f k s = none) : s.slotEvent n f = .next s := by
  unfold State.slotEvent
  split
  · exact State.event_none (absent _)
  · rfl

/-- A command that names no slot, or whose line shows no start bit, does nothing (log 1). -/
theorem exec_of_not_wellFormed {c : Instr} {s : State} (bad : c.WellFormed = false) : exec c s = .next s := by
  unfold Instr.WellFormed at bad
  cases c with
  | hostByteReceived line =>
    have high : line.start = true := by simpa [Instr.slot?, Instr.line?] using bad
    rw [exec_hostByteReceived]
    exact State.event_none (by rw [takeLine?_high high]; rfl)
  | presenceRise n => exact State.slotEvent_of_no_slot (by simpa [Instr.slot?, Instr.line?] using bad) _
  | presenceLoss n => exact State.slotEvent_of_no_slot (by simpa [Instr.slot?, Instr.line?] using bad) _
  | settlePeriodExpiry n => exact State.slotEvent_of_no_slot (by simpa [Instr.slot?, Instr.line?] using bad) _
  | laneSilenceTimeout n => exact State.slotEvent_of_no_slot (by simpa [Instr.slot?, Instr.line?] using bad) _
  | replyTimeExpiry n => exact State.slotEvent_of_no_slot (by simpa [Instr.slot?, Instr.line?] using bad) _
  | laneFrameSent n => exact State.slotEvent_of_no_slot (by simpa [Instr.slot?, Instr.line?] using bad) _
  | laneByteReceived n line =>
    rw [exec_laneByteReceived]
    by_cases slot : n < Config.slotCount
    · have high : line.start = true := by simpa [Instr.slot?, Instr.line?, slot] using bad
      exact State.slotEvent_of_none fun k => by rw [takeLine?_high high]; rfl
    · exact State.slotEvent_of_no_slot slot _
  | _ => simp [Instr.slot?, Instr.line?] at bad

/-- Settles O3: the guards of the kinds of commands, one after another. -/
theorem stepsThatCannotComeAbout : Obligations.StepsThatCannotComeAbout := by
  unfold Obligations.StepsThatCannotComeAbout
  refine ⟨fun s empty => ?_, fun c s held reset resetEnd => exec_of_held held reset resetEnd,
    fun c s bad => exec_of_not_wellFormed bad, fun c s takes other => exec_of_no_offer takes other, fun s hunting => ?_,
    fun s idle => ?_, fun s a b p running => exec_resetEnd_of_running running a b p, fun s k => ⟨fun state => ?_,
    fun state => ?_, fun state => ?_, fun receiver => ?_, fun idle => ?_, fun timer => ?_⟩⟩
  · simp only [step, empty]
  · rw [exec_gapTimerExpiry]
    exact State.event_none (by rw [hunting]; rfl)
  · rw [exec_hostFrameSent]
    exact State.event_none (by rw [idle]; rfl)
  · rw [exec_presenceRise, State.slotEvent_val]
    exact State.event_none (if_neg state)
  · rw [exec_presenceLoss, State.slotEvent_val]
    exact State.event_none (if_pos state)
  · rw [exec_settlePeriodExpiry, State.slotEvent_val]
    exact State.event_none (if_neg state)
  · rw [exec_laneSilenceTimeout, State.slotEvent_val]
    exact State.event_none (by rw [receiver])
  · rw [exec_laneFrameSent, State.slotEvent_val]
    exact State.event_none (by rw [idle]; rfl)
  · rw [exec_replyTimeExpiry, State.slotEvent_val]
    refine State.event_none ?_
    cases exchange : (s.slot k).lane.exchange with
    | none => rfl
    | some x => simp [timer x exchange]

/-! ## Power-on reset (R165) -/

/-- Settles O4: by the definition of the power-on state. -/
theorem powerOnState : Obligations.PowerOnState := by
  unfold Obligations.PowerOnState
  intro s
  refine ⟨State.powerOn s.pending, rfl, rfl, rfl, rfl, rfl, fun b => ?_, rfl, rfl, rfl, rfl, fun n => ?_, rfl, rfl, rfl, rfl,
    rfl, rfl, rfl, fun k => ?_, rfl⟩
  · simp [State.powerOn, Pool.powerOn]
  · simp [State.powerOn, AttentionUnit.powerOn]
  · exact State.slot_powerOn _ k

/-- Settles O5: the reset has held every block at its power-on value until then. -/
theorem resetEndStartsPart : Obligations.ResetEndStartsPart := by
  unfold Obligations.ResetEndStartsPart
  intro s rate1 rate0 presence held powerOn
  have powerOn := powerOn held
  refine ⟨_, exec_resetEnd_of_held held rate1 rate0 presence, ?_, fun k => ?_, ?_⟩
  · generalize s.pending = pending at powerOn
    subst powerOn
    rfl
  · have slot : s.slot k = Slot.powerOn := by rw [powerOn, State.slot_powerOn]
    have settle : s.params.settleTime = 100 := by rw [powerOn]; rfl
    rw [State.slot_started, slot, settle]
    rfl
  · cases rate1 <;> cases rate0 <;> rfl

theorem State.slot_reset (k : SlotNo) : State.reset.slot k = Slot.powerOn := State.slot_powerOn [] k

/-- Settles O6: the part after the reset differs from the power-on state in the reset's own mark only. -/
theorem resetMeetsInvariants : Obligations.ResetMeetsInvariants := by
  unfold Obligations.ResetMeetsInvariants
  refine ⟨(State.powerOn_numbers []).congr rfl rfl rfl rfl rfl, AttentionUnit.powerOn_consistent, .nil, ?_, ?_, ?_, ?_⟩
  · exact ⟨Params.powerOn_inRange, nofun, fun k => by rw [State.slot_reset]; exact Slot.powerOn_consistent⟩
  · exact (State.powerOn_placement []).steady (.of_slots rfl rfl)
  · exact (State.powerOn_ledger []).congr rfl rfl rfl rfl
  · exact State.lanesInvariant_iff _ |>.mpr (State.carries_of_empty rfl fun k => by rw [State.slot_reset]; rfl)

end Sys2Proof.Machine
end

section
/-! SUPPORT. Which commands change the configuration and the generation (R1, R40, R47, R138, R142, R157). -/

namespace Sys2Proof.Machine

-- One proof at a time: many side by side take a thread and its stack each.
set_option Elab.async false

/-! ## The generation (R40) -/

/-- The generation of the Active Placement is the same. -/
def State.SameGeneration (s t : State) : Prop := t.pe.generation = s.pe.generation

namespace State.SameGeneration

theorem refl (s : State) : s.SameGeneration s := rfl

theorem trans {s t u : State} (h : s.SameGeneration t) (g : t.SameGeneration u) : s.SameGeneration u := Eq.trans g h

theorem of_pe {s t : State} (same : t.pe = s.pe) : s.SameGeneration t := congrArg PlacementEngine.generation same

variable (s : State) (k : SlotNo)

theorem modSlot (f : Slot → Slot) : s.SameGeneration (s.modSlot k f) := rfl

theorem modLane (f : Lane → Lane) : s.SameGeneration (s.modLane k f) := rfl

theorem leave (st : SlotState) : s.SameGeneration (s.leave k st) := (s.leave_spec k st).generation

theorem endTenure (status : Status) : s.SameGeneration (s.endTenure k status) := .of_pe (s.endTenure_spec k status).pe

theorem advance : s.SameGeneration (s.advance k) := .of_pe (s.advance_laneWork k).pe

theorem enterFailed (reason : FailReason) : s.SameGeneration (s.enterFailed k reason) := by
  have rest (u : State) :
      u.SameGeneration (((u.modLane k Lane.abandon).leave k (.failed reason)).post (.slotFailed k reason)) :=
    State.SameGeneration.leave (u.modLane k Lane.abandon) k (.failed reason)
  unfold State.enterFailed
  dsimp only
  split
  · exact (State.SameGeneration.endTenure s k _).trans (rest _)
  · exact rest s

theorem countFailure : s.SameGeneration (s.countFailure k) := by
  unfold State.countFailure
  dsimp only
  split
  · exact .refl s
  · exact enterFailed (s.modSlot k fun sl => { sl with failures := sl.failures + 1 }) k _

theorem withTransaction (tag : Byte) (f : State → Transaction → State) (each : ∀ t, s.SameGeneration (f s t)) :
    s.SameGeneration (s.withTransaction tag f) := by
  unfold State.withTransaction
  split
  · exact each _
  · exact .refl s

theorem failAccess (tag : Byte) (status : Status) : s.SameGeneration (s.failAccess k tag status) :=
  (withTransaction s tag (fun s t => s.endWithout t status) fun _ => rfl).trans (countFailure _ k)

theorem failExchange (x : Exchange) (status : Status) : s.SameGeneration (s.failExchange k x status) := by
  have freed := modLane s k Lane.endUnmatched
  unfold State.failExchange
  dsimp only
  split
  · exact freed.trans (enterFailed _ k _)
  · exact freed.trans (countFailure _ k)
  · exact freed.trans (failAccess _ k _ _)
  · exact freed.trans (failAccess _ k _ _)
  · split
    · exact freed
    · exact freed.trans (leave _ k .released)

theorem expireCancelled (x : Exchange) : s.SameGeneration (s.expireCancelled k x) := by
  unfold State.expireCancelled State.endCancelledExchange
  dsimp only
  split
  · exact withTransaction (State.modLane (s.countLane k _) k _) _ _ fun _ => rfl
  · rfl

theorem cancelExchange : s.SameGeneration (s.cancelExchange k) := by
  have marked := modLane s k Lane.cancel
  unfold State.cancelExchange
  dsimp only
  split
  · split
    · exact (marked.trans (expireCancelled _ k _)).trans (advance _ k)
    · exact marked
  · exact marked

theorem enterProbing : s.SameGeneration (s.enterProbing k) :=
  (leave (s.modLane k Lane.abandon) k .probing).trans
    (advance (((s.modLane k Lane.abandon).leave k .probing).modSlot k fun sl => { sl with settle := none, failures := 0 }) k)

theorem losePresence : s.SameGeneration (s.losePresence k) :=
  (endTenure s k .moduleGone).trans (leave ((s.endTenure k .moduleGone).modLane k Lane.quiesce) k .empty)

theorem replyExpired (x : Exchange) : s.SameGeneration (s.replyExpired k x) := by
  unfold State.replyExpired
  split
  · exact expireCancelled s k x
  · split
    · exact .refl s
    · exact failExchange (s.countLane k _) k x _

end State.SameGeneration

/-- The operations of slots change the generation by an automatic commit only (R46, R47). -/
theorem State.Works.generation {s t : State} (works : s.Works t) :
    t.pe.generation = s.pe.generation ∨ s.params.joinPolicy = .autoCommit := by
  induction works with
  | trans one two first second =>
    rcases first with same | policy
    · rcases second with same' | policy
      · exact .inl (same'.trans same)
      · exact .inr (by rw [← one.fixed.params]; exact policy)
    · exact .inr policy
  | commit s policy => exact .inr policy
  | endTenure s k status => exact .inl (State.SameGeneration.endTenure s k status)
  | _ => exact .inl rfl

theorem State.addClass_generation (s : State) (c : ClassEntry) :
    (s.addClass c).pe.generation = s.pe.generation ∨ s.params.joinPolicy = .autoCommit :=
  (State.foldl_rejudge_works
    ((State.bumpStamp { s with pe := { s.pe with catalogue := insertByRank c s.pe.catalogue } }).waitingFor c.code)
    (State.bumpStamp { s with pe := { s.pe with catalogue := insertByRank c s.pe.catalogue } })).generation

theorem State.setParams_generation (s : State) (p : Params) : (s.setParams p).pe.generation = s.pe.generation := by
  unfold State.setParams
  dsimp only
  split <;> rfl

/-- Which requests change the generation. -/
theorem State.Serves.generation {s t : State} {r : HostRequest} {q : Request} (serves : s.Serves r q t)
    (changed : t.pe.generation ≠ s.pe.generation) :
    q.command = .commitPlacement ∨ q.command = .restart ∨
      (s.params.joinPolicy = .autoCommit ∧ q.command = .defineClass) := by
  cases serves with
  | params f p => exact absurd (s.setParams_generation p) changed
  | restarted => exact .inr (.inl rfl)
  | committed => exact .inl rfl
  | created f c =>
    rcases s.addClass_generation c with same | policy
    · exact absurd same changed
    · exact .inr (.inr ⟨policy, rfl⟩)
  | probed q k =>
    exact absurd ((State.SameGeneration.endTenure s k .slotReset).trans (State.SameGeneration.enterProbing _ k)) changed
  | released q k =>
    exact absurd (State.SameGeneration.advance
      ((s.modSlot k fun sl => sl.enter (.draining false)).answer r .ok .none) k) changed
  | accepted q kind view address count offset k data =>
    rw [State.accept_eq] at changed
    exact absurd (State.SameGeneration.advance (s.admitted r.tag kind k offset count data) k) changed
  | withdrawn q t =>
    exact absurd (State.SameGeneration.advance
      ((s.endCancelled t .notSent).answer r .ok (.foundState .waiting)) t.slot) changed
  | cancelled q t =>
    exact absurd (State.SameGeneration.cancelExchange
      ((s.setTransactionState t.tag .cancelling).answer r .ok (.foundState .inExchange)) t.slot) changed
  | _ => exact absurd rfl changed

/-- Of the events of the part only a byte on a lane, where it ends a frame that joins a module, changes the generation. -/
theorem State.Happens.generation {s u : State} {c : Instr} (happens : s.Happens c u)
    (changed : u.pe.generation ≠ s.pe.generation) :
    s.params.joinPolicy = .autoCommit ∧ ∃ k line, c = .laneByteReceived k line := by
  cases happens with
  | hostByteReceived line =>
    exact absurd (State.SameGeneration.of_pe (s.takeHostByte_linkWork (byteOnLine line)).pe) changed
  | gapTimerExpiry => exact absurd rfl changed
  | hostFrameSent f => exact absurd (State.SameGeneration.of_pe (s.hostFrameSent_pe f.source)) changed
  | presenceRise => exact absurd rfl changed
  | presenceLoss k => exact absurd (State.SameGeneration.losePresence s k) changed
  | settlePeriodExpiry k => exact absurd (State.SameGeneration.enterProbing s k) changed
  | laneByteReceived k line =>
    rcases (s.takeLaneByte_works k (byteOnLine line)).generation with same | policy
    · exact absurd same changed
    · exact ⟨policy, k.val, line, rfl⟩
  | laneSilenceTimeout => exact absurd rfl changed
  | replyTimeExpiry k x =>
    exact absurd ((State.SameGeneration.replyExpired s k x).trans (State.SameGeneration.advance _ k)) changed
  | laneFrameSent k f =>
    exact absurd (State.SameGeneration.of_pe (State.laneTransmit_laneWork (s.modLane k fun l => l.frameSent f) k).pe)
      changed

/-! ## The catalogue, the straps and the reset -/

/-- Which requests change the catalogue. -/
theorem State.Serves.catalogue_changed {s t : State} {r : HostRequest} {q : Request} (serves : s.Serves r q t)
    (changed : t.pe.catalogue ≠ s.pe.catalogue) :
    q.command = .defineClass ∨ q.command = .dropClass ∨ q.command = .restart := by
  cases serves with
  | params f p => exact absurd (s.setParams_catalogue p) changed
  | restarted => exact .inr (.inr rfl)
  | redefined => exact .inl rfl
  | created => exact .inl rfl
  | dropped => exact .inr (.inl rfl)
  | committed => exact absurd (s.commit_catalogue .requested) changed
  | probed q k =>
    exact absurd ((State.Works.endTenure s k .slotReset).trans (State.enterProbing_works _ k)).link.catalogue changed
  | released q k =>
    exact absurd (State.advance_works ((s.modSlot k fun sl => sl.enter (.draining false)).answer r .ok .none)
      k).link.catalogue changed
  | accepted q kind view address count offset k data =>
    rw [State.accept_eq] at changed
    exact absurd (State.advance_works (s.admitted r.tag kind k offset count data) k).link.catalogue changed
  | withdrawn q t =>
    exact absurd (State.advance_works ((s.endCancelled t .notSent).answer r .ok (.foundState .waiting))
      t.slot).link.catalogue changed
  | cancelled q t =>
    exact absurd (State.cancelExchange_works ((s.setTransactionState t.tag .cancelling).answer r .ok
      (.foundState .inExchange)) t.slot).link.catalogue changed
  | _ => exact absurd rfl changed

/-- The straps of the bit rate stay as sampled (R142). -/
def State.SameStraps (s t : State) : Prop := t.hli.rate1 = s.hli.rate1 ∧ t.hli.rate0 = s.hli.rate0

theorem State.LinkServed.straps {s t : State} (h : s.LinkServed t) : s.SameStraps t := by
  unfold State.SameStraps
  rw [h.rest]
  exact ⟨rfl, rfl⟩

theorem State.refuse_straps (s : State) (r : HostRequest) (status : Status) : s.SameStraps (s.refuse r status) := by
  unfold State.refuse
  split <;> exact ⟨rfl, rfl⟩

theorem State.takeHostByte_straps (s : State) (b : Byte) : s.SameStraps (s.takeHostByte b) := by
  unfold State.takeHostByte
  split
  · exact ⟨rfl, rfl⟩
  · exact ⟨rfl, rfl⟩
  · unfold State.judgeHostFrame State.arrive
    dsimp only
    split
    · split
      · exact State.refuse_straps (State.countLink (s.setReceiver .hunting) _) _ _
      · split
        · exact State.refuse_straps (State.countLink (s.setReceiver .hunting) _) _ _
        · exact ⟨rfl, rfl⟩
    · exact ⟨rfl, rfl⟩

theorem State.hostFrameSent_straps (s : State) (source : FrameSource) : s.SameStraps (s.hostFrameSent source) := by
  unfold State.hostFrameSent
  cases source with
  | reply =>
    simp only [State.replySent, State.countSinceNotice]
    split <;> exact ⟨rfl, rfl⟩
  | _ => exact ⟨rfl, rfl⟩

theorem State.Happens.straps {s u : State} {c : Instr} (happens : s.Happens c u) : s.SameStraps u := by
  cases happens with
  | hostByteReceived line => exact s.takeHostByte_straps _
  | gapTimerExpiry => exact ⟨rfl, rfl⟩
  | hostFrameSent f => exact s.hostFrameSent_straps _
  | presenceRise => exact ⟨rfl, rfl⟩
  | presenceLoss k => exact (s.losePresence_works k).linkServed.straps
  | settlePeriodExpiry k => exact (s.enterProbing_works k).linkServed.straps
  | laneByteReceived k line => exact (s.takeLaneByte_works k _).linkServed.straps
  | laneSilenceTimeout => exact ⟨rfl, rfl⟩
  | replyTimeExpiry k x => exact ((s.replyExpired_works k x).trans (State.advance_works _ k)).linkServed.straps
  | laneFrameSent k f => exact ((s.frameSent_works k f).trans (State.laneTransmit_works _ k)).linkServed.straps

theorem State.transmit_straps (s : State) : s.SameStraps s.transmit := by
  rw [State.transmit_eq]
  exact ⟨rfl, rfl⟩

theorem State.SameStraps.trans {s t u : State} (h : s.SameStraps t) (g : t.SameStraps u) : s.SameStraps u :=
  ⟨g.1.trans h.1, g.2.trans h.2⟩

/-- Settles O7: request by request and event by event, what each leaves of the configuration. -/
theorem configurationChangesOnlyBy : Obligations.ConfigurationChangesOnlyBy := by
  unfold Obligations.ConfigurationChangesOnlyBy
  intro c s t next reset
  rcases exec_cases next with rfl | ⟨same, _⟩ | ⟨a, b, p, rfl, _, rfl⟩ | ⟨r, offer, rfl, rfl⟩ | ⟨running, u, happens, rfl⟩
  · exact ⟨fun h => absurd rfl h, fun h => absurd rfl h, fun h => absurd rfl h, by simp, fun h => absurd rfl h⟩
  · exact absurd same reset
  · exact ⟨fun h => absurd rfl h, fun h => absurd rfl h, fun h => absurd rfl h, fun _ => ⟨a, b, p, rfl⟩,
      fun h => absurd rfl h⟩
  · have serves := State.serve_serves s.dropHead r (decodeRequest r)
    obtain ⟨held, _, params, enabled⟩ := serves.kept
    have straps := serves.linkServed.straps.trans (State.transmit_straps _)
    refine ⟨fun changed => ?_, fun changed => ?_, fun changed => ?_, fun changed => ?_, fun changed => ?_⟩
    · rw [State.transmit_params] at changed
      rcases params with same | ⟨f, request, _⟩
      · exact absurd same changed
      · rw [request]; rfl
    · rw [State.transmit_au] at changed
      rcases enabled with same | ⟨first, count, setting, request⟩
      · exact absurd same changed
      · rw [request]; rfl
    · rw [State.transmit_pe] at changed
      exact serves.catalogue_changed changed
    · rw [State.transmit_held, held] at changed
      rcases changed with rate1 | rate0 | held
      · exact absurd straps.1 rate1
      · exact absurd straps.2 rate0
      · exact absurd rfl held
    · rw [State.transmit_pe] at changed
      exact (serves.generation changed).imp_right fun h => h.imp_right fun h => ⟨h.1, .inl h.2⟩
  · have fixed := happens.fixed
    have straps := happens.straps.trans u.transmit_straps
    refine ⟨fun changed => ?_, fun changed => ?_, fun changed => ?_, fun changed => ?_, fun changed => ?_⟩
    · rw [State.transmit_params] at changed
      exact absurd fixed.params changed
    · rw [State.transmit_au] at changed
      exact absurd fixed.enabled changed
    · rw [State.transmit_pe] at changed
      exact absurd happens.catalogue changed
    · rw [State.transmit_held, fixed.held] at changed
      rcases changed with rate1 | rate0 | held
      · exact absurd straps.1 rate1
      · exact absurd straps.2 rate0
      · exact absurd rfl held
    · rw [State.transmit_pe] at changed
      obtain ⟨policy, lane⟩ := happens.generation changed
      exact .inr (.inr ⟨policy, .inr lane⟩)

end Sys2Proof.Machine
end

section
/-! SUPPORT. The receiver and the transmitter of the Host Link (R142 to R148, R152), and the proofs of the statements about
them. -/

namespace Sys2Proof.Machine

-- One proof at a time: many side by side take a thread and its stack each.
set_option Elab.async false

/-! ## Bytes on a line (R142) -/

theorem testBit_foldr_bits (bits : List Bool) (i : Nat) :
    (bits.foldr (fun (bit : Bool) n => bit.toNat + 2 * n) 0).testBit i = bits.getD i false := by
  induction bits generalizing i with
  | nil => simp
  | cons bit bits ih =>
    rw [List.foldr_cons, Nat.add_comm, ← Nat.bit_val]
    cases i with
    | zero => rw [Nat.testBit_bit_zero]; rfl
    | succ i => rw [Nat.testBit_bit_succ, ih]; rfl

theorem getLsbD_byteOnLine (line : LineByte) (i : Fin 8) : (byteOnLine line).getLsbD i.val = line.data[i] := by
  rw [byteOnLine, BitVec.getLsbD_ofNat, testBit_foldr_bits]
  simp [i.isLt]

theorem lineLevels_lineOfByte (b : Byte) :
    lineLevels (lineOfByte b) =
      [false, b.getLsbD 0, b.getLsbD 1, b.getLsbD 2, b.getLsbD 3, b.getLsbD 4, b.getLsbD 5, b.getLsbD 6, b.getLsbD 7,
        true] := by
  simp [lineLevels, lineOfByte, Vector.toList_ofFn, List.ofFn_succ]

theorem frameLevels_eq (bytes : List Byte) :
    frameLevels bytes = bytes.flatMap fun b =>
      [false, b.getLsbD 0, b.getLsbD 1, b.getLsbD 2, b.getLsbD 3, b.getLsbD 4, b.getLsbD 5, b.getLsbD 6, b.getLsbD 7,
        true] := by
  unfold frameLevels
  simp only [lineLevels_lineOfByte]

/-! ## The stages of the receiver (R144) -/

section
variable {s : State} {line : LineByte} (running : s.held = false) (low : line.start = false)
include running low

/-- A byte is taken, and the idle transmitter then makes its choice. -/
theorem exec_hostByte : exec (.hostByteReceived line) s = .next (s.takeHostByte (byteOnLine line)).transmit :=
  (State.Happens.hostByteReceived line low).exec_eq running

theorem exec_hostByte_stage {r : Receiver}
    (stage : s.hli.receiver.take s.params.frameGapTime (byteOnLine line) = .stage r) :
    exec (.hostByteReceived line) s = .next (s.setReceiver r).transmit := by
  rw [exec_hostByte running low, State.takeHostByte, stage]

theorem exec_hostByte_badLength
    (bad : s.hli.receiver.take s.params.frameGapTime (byteOnLine line) = .badLength) :
    exec (.hostByteReceived line) s =
      .next ((s.setReceiver .hunting).countLink fun c => { c with badLength := bump c.badLength }).transmit := by
  rw [exec_hostByte running low, State.takeHostByte, bad]

theorem exec_hostByte_complete {len : Nat} {body check : List Byte}
    (complete : s.hli.receiver.take s.params.frameGapTime (byteOnLine line) = .complete len body check) :
    exec (.hostByteReceived line) s = .next (s.judgeHostFrame len body check).transmit := by
  rw [exec_hostByte running low, State.takeHostByte, complete]

end

section
variable (gap : Nat) {g len : Nat} {b : Byte} {received body : List Byte}

theorem Receiver.take_hunting : Receiver.hunting.take gap b = .stage (if b = 0xA5 then .awaitingLength gap else .hunting) :=
  rfl

theorem Receiver.take_length (low : 3 ≤ b.toNat) (high : b.toNat ≤ 248) :
    (Receiver.awaitingLength g).take gap b = .stage (.body g b.toNat []) := if_pos ⟨low, high⟩

theorem Receiver.take_badLength (bad : b.toNat < 3 ∨ 248 < b.toNat) :
    (Receiver.awaitingLength g).take gap b = .badLength := if_neg (by omega)

theorem Receiver.take_body (short : received.length + 1 < len) :
    (Receiver.body g len received).take gap b = .stage (.body g len (received ++ [b])) := by
  unfold Receiver.take
  dsimp only
  rw [if_pos (by simpa using short)]

theorem Receiver.take_body_last (whole : len ≤ received.length + 1) :
    (Receiver.body g len received).take gap b = .stage (.check g len (received ++ [b]) []) := by
  unfold Receiver.take
  dsimp only
  rw [if_neg (by simpa using whole)]

theorem Receiver.take_check : (Receiver.check g len body []).take gap b = .stage (.check g len body [b]) := rfl

theorem Receiver.take_check_last (c : Byte) :
    (Receiver.check g len body [c]).take gap b = .complete len body [c, b] := rfl

end

/-- Settles O8: the rows of the table of R144, one by one. -/
theorem hostByteStages : Obligations.HostByteStages := by
  unfold Obligations.HostByteStages
  refine ⟨getLsbD_byteOnLine, fun bytes => ⟨fun _ => frameLevels_eq bytes, fun _ _ => frameLevels_eq bytes⟩,
    fun s line running low => ⟨fun receiver sync => ?_, fun receiver other => ?_, fun gap receiver low3 high => ?_,
    fun gap receiver bad => ?_, fun gap len received receiver short => ?_, fun gap len received receiver whole => ?_,
    fun gap len body receiver => ?_, fun inside => ?_⟩⟩
  · exact exec_hostByte_stage running low (by rw [receiver, Receiver.take_hunting, if_pos sync])
  · exact exec_hostByte_stage running low (by rw [receiver, Receiver.take_hunting, if_neg other])
  · exact exec_hostByte_stage running low (by rw [receiver, Receiver.take_length _ low3 high])
  · exact exec_hostByte_badLength running low (by rw [receiver, Receiver.take_badLength _ bad])
  · exact exec_hostByte_stage running low (by rw [receiver, Receiver.take_body _ short])
  · exact exec_hostByte_stage running low (by rw [receiver, Receiver.take_body_last _ whole])
  · exact exec_hostByte_stage running low (by rw [receiver, Receiver.take_check])
  · refine (State.Happens.gapTimerExpiry ?_).exec_eq running
    cases receiver : s.hli.receiver with
    | hunting => exact absurd receiver inside
    | _ => rfl

/-! ## A whole frame (R144, R146) -/

theorem State.transmit_of_nothing {s : State} (idle : s.hli.sending = none) (nothing : s.chooseFrame = none) :
    s.transmit = s := by
  have same : (s.hli.sending <|> s.chooseFrame) = s.hli.sending := by rw [idle, nothing]; rfl
  rw [State.transmit_eq, same]

/-- An idle transmitter that finds nothing to send goes on finding nothing. -/
theorem State.transmit_transmit (s : State) : s.transmit.transmit = s.transmit := by
  cases sending : s.hli.sending with
  | some f => rw [State.transmit_busy sending, State.transmit_busy sending]
  | none =>
    cases chosen : s.chooseFrame with
    | some f => exact State.transmit_busy (f := f) (by rw [State.transmit_eq, sending, chosen]; rfl)
    | none => rw [State.transmit_of_nothing sending chosen, State.transmit_of_nothing sending chosen]

/-- The transmitter does not look at the receiver. -/
theorem State.transmit_setReceiver (s : State) (r : Receiver) : (s.setReceiver r).transmit = s.transmit.setReceiver r := by
  rw [State.transmit_eq, State.transmit_eq]
  rfl

theorem State.setReceiver_setReceiver (s : State) (r r' : Receiver) :
    (s.setReceiver r).setReceiver r' = s.setReceiver r' := rfl

theorem State.setReceiver_self {s : State} {r : Receiver} (same : s.hli.receiver = r) : s.setReceiver r = s := by
  subst same
  rfl

theorem runAll_cons {c : Instr} {s t : State} (next : exec c s = .next t) (rest : List Instr) :
    runAll (c :: rest) s = runAll rest t := by
  rw [runAll, next]

/-- A byte inside a frame moves the receiver on, and the transmitter has made its choice before. -/
theorem runAll_stage {s : State} {line : LineByte} {r r' : Receiver} (running : s.held = false)
    (low : line.start = false) (stage : r.take s.params.frameGapTime (byteOnLine line) = .stage r') (rest : List Instr) :
    runAll (.hostByteReceived line :: rest) (s.transmit.setReceiver r) = runAll rest (s.transmit.setReceiver r') := by
  rw [runAll_cons (exec_hostByte_stage (r := r') ?_ low ?_), State.setReceiver_setReceiver, State.transmit_setReceiver,
    State.transmit_transmit]
  · exact (State.transmit_held s).trans running
  · change r.take s.transmit.params.frameGapTime _ = _
    rw [State.transmit_params]
    exact stage

/-- The bytes of a body, from the first to the last. -/
theorem runAll_body {s : State} (running : s.held = false) {lines : List LineByte}
    (low : ∀ line ∈ lines, line.start = false) (some_line : lines ≠ []) {gap len : Nat} {received : List Byte}
    (length : received.length + lines.length = len) (rest : List Instr) :
    runAll (lines.map Instr.hostByteReceived ++ rest) (s.transmit.setReceiver (.body gap len received)) =
      runAll rest (s.transmit.setReceiver (.check gap len (received ++ lines.map byteOnLine) [])) := by
  induction lines generalizing received with
  | nil => exact absurd rfl some_line
  | cons line lines ih =>
    rw [List.length_cons] at length
    rw [List.map_cons, List.cons_append]
    have start := low line List.mem_cons_self
    cases lines with
    | nil =>
      rw [runAll_stage running start (Receiver.take_body_last _ (by rw [List.length_nil] at length; omega))]
      rfl
    | cons next lines =>
      rw [List.length_cons] at length
      rw [runAll_stage running start (Receiver.take_body _ (by omega)),
        ih (fun l hl => low l (List.mem_cons_of_mem line hl)) (List.cons_ne_nil _ _)
          (by rw [List.length_append, List.length_singleton, List.length_cons]; omega)]
      simp

/-- What a whole frame from HUNTING comes to: its judgement, with the transmitter's choice before and after (R146). -/
theorem runAll_frame {s : State} {body : List Byte} {c1 c0 : Byte} {lines : List LineByte} (running : s.held = false)
    (hunting : s.hli.receiver = .hunting) (low3 : 3 ≤ body.length) (high : body.length ≤ 248)
    (low : ∀ line ∈ lines, line.start = false)
    (bytes : lines.map byteOnLine = 0xA5 :: byteOf body.length :: (body ++ [c1, c0])) :
    runAll (lines.map Instr.hostByteReceived) s =
      .next (s.transmit.judgeHostFrame body.length body [c1, c0]).transmit := by
  obtain ⟨sync, rest, rfl, syncByte, bytes⟩ := List.map_eq_cons_iff.mp bytes
  obtain ⟨length, rest, rfl, lengthByte, bytes⟩ := List.map_eq_cons_iff.mp bytes
  obtain ⟨content, check, rfl, bodyBytes, bytes⟩ := List.map_eq_append_iff.mp bytes
  obtain ⟨first, check, rfl, firstByte, bytes⟩ := List.map_eq_cons_iff.mp bytes
  obtain ⟨second, check, rfl, secondByte, bytes⟩ := List.map_eq_cons_iff.mp bytes
  obtain rfl := List.map_eq_nil_iff.mp bytes
  have start (line : LineByte) (h : line ∈ sync :: length :: (content ++ [first, second])) := low line h
  have number : (byteOf body.length).toNat = body.length := by
    rw [byteOf, BitVec.toNat_ofNat, Nat.mod_eq_of_lt (by omega)]
  have contentLength : content.length = body.length := by rw [← bodyBytes, List.length_map]
  have last := exec_hostByte_complete (s := s.transmit.setReceiver (.check s.params.frameGapTime body.length body [c1]))
    ((State.transmit_held s).trans running) (start second (by simp)) (Receiver.take_check_last _ c1)
  rw [List.map_cons, runAll_cons (exec_hostByte_stage (r := .awaitingLength s.params.frameGapTime) running
    (start sync (by simp)) (by rw [hunting, Receiver.take_hunting, if_pos syncByte])), State.transmit_setReceiver,
    List.map_cons, runAll_stage running (start length (by simp))
      (Receiver.take_length _ (by rw [lengthByte, number]; exact low3) (by rw [lengthByte, number]; exact high)),
    lengthByte, number, List.map_append,
    runAll_body running (fun l hl => start l (by simp [hl])) (by rintro rfl; simp at contentLength; omega)
      (by simpa using contentLength), List.nil_append, bodyBytes, List.map_cons,
    runAll_stage running (start first (by simp)) (Receiver.take_check _), firstByte, List.map_cons,
    runAll_cons last, secondByte]
  rfl

/-- The Host Link with a refusal in its empty slot, or dropped and counted (R148). -/
def HostLink.refusing (h : HostLink) (r : HostRequest) (status : Status) : HostLink :=
  match h.refusal with
  | none => { h with refusal := some ⟨replyCode r.code, r.tag, status⟩ }
  | some _ => { h with counters := { h.counters with refusalsDropped := bump h.counters.refusalsDropped } }

theorem State.refuse_eq (s : State) (r : HostRequest) (status : Status) :
    s.refuse r status = { s with hli := s.hli.refusing r status } := by
  unfold State.refuse HostLink.refusing
  split
  next empty => simp only [empty]
  next full =>
    simp only [full]
    rw [← full]
    rfl

/-- A good frame is counted (R146). -/
def State.countGood (s : State) : State := s.countLink fun c => { c with goodFrames := bump c.goodFrames }

section
variable {s : State} {r : HostRequest}

theorem State.arrive_of_used (used : s.tagInUse r.tag = true) : s.arrive r = s.refuse r .tagInUse := if_pos used

theorem State.arrive_of_full (unused : ¬s.tagInUse r.tag = true) (full : Config.requestCapacity ≤ s.hli.requests.length) :
    s.arrive r = s.refuse r .queueFull := (if_neg unused).trans (if_pos full)

theorem State.arrive_of_room (unused : ¬s.tagInUse r.tag = true)
    (room : ¬Config.requestCapacity ≤ s.hli.requests.length) :
    s.arrive r = { s with hli := { s.hli with requests := s.hli.requests ++ [r] } } :=
  (if_neg unused).trans (if_neg room)

end

/-- Settles O9: the receiver takes the frame byte by byte, and its last byte judges it. -/
theorem hostFrameJudged : Obligations.HostFrameJudged := by
  unfold Obligations.HostFrameJudged
  intro s body c1 c0 lines running hunting low3 high low bytes
  have frame := runAll_frame running hunting low3 high low bytes
  have still : s.transmit.setReceiver .hunting = s.transmit :=
    State.setReceiver_self ((State.transmit_receiver s).trans hunting)
  have tags (tag : Byte) : s.transmit.countGood.tagInUse tag = true ↔ tag ∈ s.tags := by
    simp [State.countGood, State.countLink, State.tagInUse, State.tags]
  have requests : s.transmit.countGood.hli.requests = s.hli.requests := State.transmit_requests s
  unfold State.judgeHostFrame at frame
  rw [still] at frame
  refine ⟨fun wrong => ?_, fun right => ?_⟩
  · rw [frame]
    dsimp only
    rw [if_neg wrong]
    rfl
  · dsimp only at frame
    rw [if_pos right] at frame
    change _ = Host.Outcome.next (s.transmit.countGood.arrive (requestOf body)).transmit at frame
    refine ⟨fun used => ?_, fun free full => ?_, fun free room => ?_⟩
    · rw [frame, State.arrive_of_used (r := requestOf body) ((tags _).mpr used), State.refuse_eq]
      rfl
    · rw [frame, State.arrive_of_full (r := requestOf body) (fun used => free ((tags _).mp used))
        (by rw [requests]; exact full), State.refuse_eq]
      rfl
    · rw [frame, State.arrive_of_room (r := requestOf body) (fun used => free ((tags _).mp used))
        (by rw [requests]; exact Nat.not_le.mpr room)]
      rfl

/-! ## The completion of a frame (R132, R152) -/

theorem markSent_of_absent {q : Nat} {queue : List Notice} (absent : ∀ n ∈ queue, n.seq ≠ q) : markSent q queue = queue := by
  induction queue with
  | nil => rfl
  | cons n rest ih =>
    rw [markSent, if_neg (absent n List.mem_cons_self), ih fun m hm => absent m (List.mem_cons_of_mem n hm)]
    split <;> rfl

/-- A notice is marked where every older one is SENT, and only there (R132). -/
theorem markSent_append {q : Nat} {older newer : List Notice} {n : Notice} (own : n.seq = q)
    (others : ∀ m ∈ older, m.seq ≠ q) :
    markSent q (older ++ n :: newer) =
      if ∀ m ∈ older, m.delivery = .sent then older ++ { n with delivery := .sent } :: newer
      else older ++ n :: newer := by
  induction older with
  | nil =>
    rw [List.nil_append, markSent, if_pos own, if_pos (by simp)]
    rfl
  | cons m older ih =>
    rw [List.cons_append, markSent, if_neg (others m List.mem_cons_self),
      ih fun m' hm => others m' (List.mem_cons_of_mem m hm)]
    simp only [List.forall_mem_cons]
    by_cases sent : m.delivery = .sent
    · simp only [sent, true_and, if_true]
      split <;> rfl
    · simp only [sent, false_and, if_false]

theorem State.replySent_cons {s : State} {r : Reply} {rest : List Reply} (replies : s.hli.replies = r :: rest) :
    s.replySent = { s with hli := { s.hli with replies := rest }, pool := s.pool.setOwner r.blocks .free } := by
  unfold State.replySent
  rw [replies]

/-- Settles O10: the rows of the table of R152, and `markSent` along the queue. -/
theorem hostFrameSentUpdatesSource : Obligations.HostFrameSentUpdatesSource := by
  unfold Obligations.HostFrameSentUpdatesSource
  refine ⟨fun r => ?_, fun q queue => ⟨markSent_of_absent, ?_⟩, fun s f running sending => ?_⟩
  · unfold Reply.blocks
    cases r.fields <;> rfl
  · rintro older n newer rfl own others
    rw [markSent_append own others]
    refine ⟨fun sent => if_pos sent, fun ⟨m, hm, fresh⟩ => if_neg fun sent => ?_⟩
    rw [sent m hm] at fresh
    cases fresh
  · have next := (State.Happens.hostFrameSent f sending).exec_eq running
    refine ⟨fun source => ?_, fun r rest source replies => ?_, fun q source => ?_, fun source => ?_⟩
    · rw [next, source]
      rfl
    · have sent := State.replySent_cons (s := { s with hli := { s.hli with sending := none } }) replies
      rw [next, source, State.hostFrameSent, sent]
      rfl
    · rw [next, source]
      rfl
    · rw [next, source]
      rfl

end Sys2Proof.Machine
end

section
/-! SUPPORT. The layouts of the messages (chapter 10): numbers, check and frame, the reading of request bodies, and the
proofs of the statements about the arbiter and the requests. -/

namespace Sys2Proof.Machine

-- One proof at a time: many side by side take a thread and its stack each.
set_option Elab.async false

/-! ## Numbers, high byte first (R167) -/

theorem toNat_byteOf {n : Nat} (h : n < 256) : (byteOf n).toNat = n := by
  rw [byteOf, BitVec.toNat_ofNat, Nat.mod_eq_of_lt h]

theorem be16_value {n : Nat} (h : n < 65536) :
    ∃ hi lo : Byte, be16 n = [hi, lo] ∧ hi.toNat * 256 + lo.toNat = n := by
  refine ⟨byteOf (n / 256), byteOf n, rfl, ?_⟩
  simp only [byteOf, BitVec.toNat_ofNat]
  omega

theorem be32_value (w : Word) :
    ∃ a b c d : Byte, be32 w = [a, b, c, d] ∧
      ((a.toNat * 256 + b.toNat) * 256 + c.toNat) * 256 + d.toNat = w.toNat := by
  refine ⟨_, _, _, _, rfl, ?_⟩
  simp only [BitVec.extractLsb'_toNat, Nat.shiftRight_eq_div_pow]
  have := w.isLt
  omega

theorem word32_be32 (w : Word) :
    word32 (w.extractLsb' 24 8) (w.extractLsb' 16 8) (w.extractLsb' 8 8) (w.extractLsb' 0 8) = w := by
  apply BitVec.eq_of_toNat_eq
  have := w.isLt
  simp only [word32, BitVec.toNat_append, BitVec.extractLsb'_toNat, Nat.shiftRight_eq_div_pow, Nat.shiftLeft_eq]
  rw [← Nat.shiftLeft_eq, ← Nat.shiftLeft_eq, ← Nat.shiftLeft_eq, ← Nat.shiftLeft_add_eq_or_of_lt (by omega),
    ← Nat.shiftLeft_add_eq_or_of_lt (by omega), ← Nat.shiftLeft_add_eq_or_of_lt (by omega)]
  simp only [Nat.shiftLeft_eq]
  omega

theorem toNat_word32 (a b c d : Byte) :
    (word32 a b c d).toNat = ((a.toNat * 256 + b.toNat) * 256 + c.toNat) * 256 + d.toNat := by
  have := b.isLt
  have := c.isLt
  have := d.isLt
  simp only [word32, BitVec.toNat_append]
  rw [← Nat.shiftLeft_add_eq_or_of_lt (by omega), ← Nat.shiftLeft_add_eq_or_of_lt (by omega),
    ← Nat.shiftLeft_add_eq_or_of_lt (by omega)]
  simp only [Nat.shiftLeft_eq]

theorem be32_word32 (a b c d : Byte) : be32 (word32 a b c d) = [a, b, c, d] := by
  have value := toNat_word32 a b c d
  have := b.isLt
  have := c.isLt
  have := d.isLt
  have := a.isLt
  simp only [be32, List.cons.injEq, and_true]
  refine ⟨?_, ?_, ?_, ?_⟩
  all_goals
    apply BitVec.eq_of_toNat_eq
    simp only [BitVec.extractLsb'_toNat, Nat.shiftRight_eq_div_pow, value]
    omega

/-- The words of the bytes that words make are those words (R168). -/
theorem wordsOf_flatMap_be32 (ws : List Word) : wordsOf (ws.flatMap be32) = some ws := by
  induction ws with
  | nil => rfl
  | cons w ws ih =>
    rw [List.flatMap_cons]
    change (wordsOf (ws.flatMap be32)).map (word32 _ _ _ _ :: ·) = some (w :: ws)
    rw [ih, word32_be32]
    rfl

/-- Bytes that make words are the bytes of those words. -/
theorem wordsOf_eq_some {bytes : List Byte} {ws : List Word} (h : wordsOf bytes = some ws) : bytes = ws.flatMap be32 := by
  induction bytes using wordsOf.induct generalizing ws with
  | case1 => obtain rfl := Option.some.inj h; rfl
  | case2 a b c d rest ih =>
    obtain ⟨tail, found, rfl⟩ := Option.map_eq_some_iff.mp h
    rw [List.flatMap_cons, be32_word32, ← ih found]
    rfl
  | case3 a rest short => rw [wordsOf] at h; cases h; exact short

theorem length_flatMap_be32 (ws : List Word) : (ws.flatMap be32).length = 4 * ws.length := by
  induction ws with
  | nil => rfl
  | cons w ws ih =>
    rw [List.flatMap_cons, List.length_append, ih, List.length_cons]
    simp [be32]
    omega

/-- Any whole number of words is read. -/
theorem wordsOf_of_length {n : Nat} {bytes : List Byte} (length : bytes.length = 4 * n) :
    ∃ ws, wordsOf bytes = some ws ∧ ws.length = n := by
  induction n generalizing bytes with
  | zero => exact ⟨[], by rw [List.eq_nil_of_length_eq_zero length]; rfl, rfl⟩
  | succ n ih =>
    match bytes, length with
    | a :: b :: c :: d :: rest, length =>
      obtain ⟨ws, found, rfl⟩ := ih (bytes := rest) (by simp only [List.length_cons] at length; omega)
      exact ⟨word32 a b c d :: ws, by rw [wordsOf, found]; rfl, rfl⟩

/-! ## The check (R143) -/

/-- One bit into the CRC register. -/
def crcBit (c : BitVec 16) (bit : Bool) : BitVec 16 := (c <<< 1) ^^^ (if c.msb = bit then 0 else 0x1021)

/-- The bits that are exclusive-ored onto the register enter it from the top, one with each shift. -/
theorem crcShift_xor (n : Nat) (c e : BitVec 16) :
    crcShift n (c ^^^ e) = ((List.range n).map e.getMsbD).foldl crcBit c ^^^ (e <<< n) := by
  induction n generalizing c e with
  | zero => simp [crcShift]
  | succ n ih =>
    have step : (if (c ^^^ e).msb then ((c ^^^ e) <<< 1) ^^^ 0x1021#16 else (c ^^^ e) <<< 1) =
        crcBit c e.msb ^^^ (e <<< 1) := by
      rw [BitVec.msb_xor, BitVec.shiftLeft_xor_distrib, crcBit]
      cases c.msb <;> cases e.msb <;> simp
      · ac_rfl
      · ac_rfl
    have bits : (e <<< 1).getMsbD = e.getMsbD ∘ Nat.succ := by
      funext i
      simp [BitVec.getMsbD_shiftLeft]
    have first : e.getMsbD 0 = e.msb := rfl
    rw [crcShift, step, ih, List.range_succ_eq_map, List.map_cons, List.map_map, List.foldl_cons, bits, first,
      ← BitVec.shiftLeft_add, Nat.add_comm]

/-- A byte enters the register bit by bit, most significant first (R143). -/
theorem crcByte_eq (c : BitVec 16) (b : Byte) :
    crcByte c b =
      [b.getLsbD 7, b.getLsbD 6, b.getLsbD 5, b.getLsbD 4, b.getLsbD 3, b.getLsbD 2, b.getLsbD 1, b.getLsbD 0].foldl
        crcBit c := by
  have gone : (b.setWidth 16 <<< 8) <<< 8 = 0#16 := by
    rw [← BitVec.shiftLeft_add]
    exact BitVec.shiftLeft_eq_zero (Nat.le_refl 16)
  have bits : (List.range 8).map (b.setWidth 16 <<< 8).getMsbD =
      [b.getLsbD 7, b.getLsbD 6, b.getLsbD 5, b.getLsbD 4, b.getLsbD 3, b.getLsbD 2, b.getLsbD 1, b.getLsbD 0] := by
    simp [List.range_succ, BitVec.getMsbD]
  rw [crcByte, crcShift_xor, gone, bits, BitVec.xor_zero]

theorem crc16_eq (bytes : List Byte) :
    crc16 bytes = (bytes.flatMap fun b =>
      [b.getLsbD 7, b.getLsbD 6, b.getLsbD 5, b.getLsbD 4, b.getLsbD 3, b.getLsbD 2, b.getLsbD 1, b.getLsbD 0]).foldl
        crcBit 0xFFFF := by
  rw [crc16, List.foldl_flatMap]
  congr 1
  funext c b
  exact crcByte_eq c b

theorem checkBytes_value (bytes : List Byte) :
    ∃ hi lo : Byte, checkBytes bytes = [hi, lo] ∧ hi.toNat * 256 + lo.toNat = (crc16 bytes).toNat := by
  refine ⟨_, _, rfl, ?_⟩
  simp only [BitVec.extractLsb'_toNat, Nat.shiftRight_eq_div_pow]
  have := (crc16 bytes).isLt
  omega

/-! ## What the arbiter sends (R132, R153) -/

theorem Delivery.ne_fresh_iff (d : Delivery) : d ≠ .fresh ↔ d = .sent := by cases d <;> simp

/-- The Attention Unit offers the oldest NEW notice within the Notice Window (R132). -/
theorem AttentionUnit.offer_eq_some_iff (au : AttentionUnit) (w : Nat) (n : Notice) :
    au.offer w = some n ↔
      (au.queue.filter fun m => m.delivery = .sent).length < w ∧
      ∃ older newer, au.queue = older ++ n :: newer ∧ n.delivery = .fresh ∧ ∀ m ∈ older, m.delivery = .sent := by
  unfold AttentionUnit.offer AttentionUnit.sentCount
  split
  next room =>
    rw [List.find?_eq_some_iff_append]
    simp only [decide_eq_true_eq, Bool.not_eq_true', decide_eq_false_iff_not, Delivery.ne_fresh_iff]
    constructor
    · rintro ⟨fresh, older, newer, queue, sent⟩
      exact ⟨room, older, newer, queue, fresh, sent⟩
    · rintro ⟨_, older, newer, queue, fresh, sent⟩
      exact ⟨fresh, older, newer, queue, sent⟩
  next full => simp [full]

theorem State.transmit_of_idle {s : State} (idle : s.hli.sending = none) :
    s.transmit = { s with hli := { s.hli with sending := s.chooseFrame } } := by
  rw [State.transmit_eq, idle]
  rfl

section
variable {s : State} (empty : s.hli.refusal = none)

theorem State.chooseFrame_refusal {r : RefusalFrame} (full : s.hli.refusal = some r) :
    s.chooseFrame = some ⟨.refusal, hostFrame r.toBody⟩ := by
  unfold State.chooseFrame
  rw [full]

include empty

theorem State.chooseFrame_notice_first {n : Notice} (turn : s.hli.sinceNotice = 4)
    (offered : s.au.offer s.params.noticeWindow = some n) :
    s.chooseFrame = some ⟨.notice n.seq, hostFrame n.toBody⟩ := by
  unfold State.chooseFrame
  rw [empty, offered]
  exact if_pos turn

theorem State.chooseFrame_reply {r : Reply} {rest : List Reply} (replies : s.hli.replies = r :: rest)
    (turn : s.hli.sinceNotice ≠ 4 ∨ s.au.offer s.params.noticeWindow = none) :
    s.chooseFrame = some ⟨.reply, hostFrame (r.toBody s.pool)⟩ := by
  unfold State.chooseFrame
  rw [empty, replies]
  dsimp only
  split
  next four =>
    rw [turn.resolve_left (not_not_intro four)]
    rfl
  next => rfl

theorem State.chooseFrame_no_reply (replies : s.hli.replies = []) :
    s.chooseFrame =
      (s.au.offer s.params.noticeWindow).map fun n => ⟨.notice n.seq, hostFrame n.toBody⟩ := by
  unfold State.chooseFrame
  rw [empty, replies]
  dsimp only
  split
  · cases s.au.offer s.params.noticeWindow <;> rfl
  · rfl

end

theorem Status.toByte_toNat (status : Status) :
    [Status.ok, .queueFull, .tagInUse, .unknownRequest, .badFormat, .badParam, .catalogueFull, .rankTaken, .noClass,
      .classInUse, .anchorConflict, .draftChanged, .staleView, .unmapped, .vacant, .reserved, .spanError, .fenceWrite,
      .slotState, .slotReleasing, .noTxn, .laneBusy, .noBuffer, .moduleRefused, .laneTimeout, .laneFault, .moduleGone,
      .cancelled, .noSuchTag, .aborted, .slotReset, .badSeq, .protocolError][status.toByte.toNat]? = some status := by
  cases status <;> rfl

theorem replyCode_toNat {code : Byte} (low : code.toNat < 0x80) : (replyCode code).toNat = code.toNat + 0x80 := by
  rw [replyCode, if_pos low, BitVec.toNat_add]
  change (code.toNat + 0x80) % 256 = code.toNat + 0x80
  omega

/-- Settles O11: by the definitions of the arbiter and of the layouts; the check by induction on the bytes. -/
theorem arbiterChoice : Obligations.ArbiterChoice := by
  unfold Obligations.ArbiterChoice
  refine ⟨AttentionUnit.offer_eq_some_iff, fun s => ⟨fun busy => ?_, fun idle => ⟨fun r full => ?_, fun n empty turn offered => ?_,
    fun r rest empty turn replies => ?_, fun n empty replies offered => ?_, fun empty replies offered => ?_⟩⟩,
    fun n h => toNat_byteOf h, fun n h => be16_value h, be32_value, fun bytes => ?_, fun body => rfl,
    fun code => ⟨replyCode_toNat, fun high => if_neg (Nat.not_lt.mpr high)⟩, Status.toByte_toNat,
    fun _ _ _ => ⟨rfl, rfl⟩, rfl, rfl, rfl, rfl, rfl, fun r => rfl, fun pool r => ⟨rfl, fun fields => ?_⟩, fun n => ?_⟩
  · obtain ⟨f, sending⟩ := Option.ne_none_iff_exists'.mp busy
    exact State.transmit_busy sending
  · rw [State.transmit_of_idle idle, State.chooseFrame_refusal full]
  · rw [State.transmit_of_idle idle, State.chooseFrame_notice_first empty turn offered]
  · rw [State.transmit_of_idle idle, State.chooseFrame_reply empty replies turn]
  · rw [State.transmit_of_idle idle, State.chooseFrame_no_reply empty replies, offered]
    rfl
  · refine State.transmit_of_nothing idle ?_
    rw [State.chooseFrame_no_reply empty replies, offered]
    rfl
  · obtain ⟨hi, lo, bytes', value⟩ := checkBytes_value bytes
    refine ⟨hi, lo, bytes', ?_⟩
    rw [value, crc16_eq]
    rfl
  · cases fields with
    | cancelled g outcome =>
      cases outcome with
      | performed refused => cases refused <;> rfl
      | _ => rfl
    | _ => rfl
  · obtain ⟨seq, kind, delivery⟩ := n
    cases kind with
    | moduleJoined k code joins outcome => cases outcome <;> rfl
    | moduleLeft k code cause => cases cause <;> rfl
    | placementCommitted g fitted unfit mark => cases mark <;> rfl
    | releaseDone k outcome => cases outcome <;> rfl
    | _ => rfl

end Sys2Proof.Machine
end

section
/-! SUPPORT. The reading of request bodies and the bytes of the reports (R150, R156, R168, R169), and the proofs of the
statements about them. -/

namespace Sys2Proof.Machine

-- One proof at a time: many side by side take a thread and its stack each.
set_option Elab.async false

/-! ## The readers of request bodies (R168) -/

/-- A reader takes the bodies of the lengths given, code and tag included, and calls every other malformed. -/
def Reads (lengths : List Nat) (read : List Byte → Request) : Prop :=
  ∀ fields, read fields ≠ .unknown ∧ (read fields = .badFormat ↔ fields.length + 2 ∉ lengths)

theorem reads_oneByte {f : Nat → Request} (field : ∀ n, f n ≠ .unknown ∧ f n ≠ .badFormat) :
    Reads [3] fun fields => oneByte fields f := by
  intro fields
  dsimp only
  unfold oneByte
  split
  next a => simp [field]
  next other =>
    refine ⟨nofun, ⟨fun _ => ?_, fun _ => rfl⟩⟩
    match fields, other with
    | [], _ => simp
    | [a], other => exact (other a rfl).elim
    | a :: b :: rest, _ => simp

theorem reads_oneHalf {f : Nat → Request} (field : ∀ n, f n ≠ .unknown ∧ f n ≠ .badFormat) :
    Reads [4] fun fields => oneHalf fields f := by
  intro fields
  dsimp only
  unfold oneHalf
  split
  next a b => simp [field]
  next other =>
    refine ⟨nofun, ⟨fun _ => ?_, fun _ => rfl⟩⟩
    simp only [List.mem_singleton]
    intro length
    match fields, length with
    | [a, b], _ => exact other a b rfl

theorem reads_setParameters : Reads [12] decodeSetParameters := by
  intro fields
  unfold decodeSetParameters
  split
  next => simp
  next other =>
    refine ⟨nofun, ⟨fun _ => ?_, fun _ => rfl⟩⟩
    simp only [List.mem_singleton]
    intro length
    match fields, length with
    | [a, b, c, d, e, f, g, h, i, j], _ => exact other a b c d e f g h i j rfl

theorem reads_defineClass : Reads [13] decodeDefineClass := by
  intro fields
  unfold decodeDefineClass
  split
  next => simp
  next other =>
    refine ⟨nofun, ⟨fun _ => ?_, fun _ => rfl⟩⟩
    simp only [List.mem_singleton]
    intro length
    match fields, length with
    | [a, b, c, d, e, f, g, h, i, j, k], _ => exact other a b c d e f g h i j k rfl

theorem reads_accessRead : Reads [7] decodeAccessRead := by
  intro fields
  unfold decodeAccessRead
  split
  next => simp
  next other =>
    refine ⟨nofun, ⟨fun _ => ?_, fun _ => rfl⟩⟩
    simp only [List.mem_singleton]
    intro length
    match fields, length with
    | [a, b, c, d, e], _ => exact other a b c d e rfl

theorem reads_setEventEnable : Reads [6] decodeSetEventEnable := by
  intro fields
  unfold decodeSetEventEnable
  split
  next => simp
  next other =>
    refine ⟨nofun, ⟨fun _ => ?_, fun _ => rfl⟩⟩
    simp only [List.mem_singleton]
    intro length
    match fields, length with
    | [a, b, c, d], _ => exact other a b c d rfl

theorem reads_readCounters : Reads [5] decodeReadCounters := by
  intro fields
  unfold decodeReadCounters
  split
  next => simp
  next other =>
    refine ⟨nofun, ⟨fun _ => ?_, fun _ => rfl⟩⟩
    simp only [List.mem_singleton]
    intro length
    match fields, length with
    | [a, b, c], _ => exact other a b c rfl

theorem mem_writeLengths {n : Nat} : n ∈ (List.range 33).map (fun m => 7 + 4 * m) ↔ ∃ m, m ≤ 32 ∧ n = 7 + 4 * m := by
  simp only [List.mem_map, List.mem_range]
  constructor
  · rintro ⟨m, bound, rfl⟩
    exact ⟨m, by omega, rfl⟩
  · rintro ⟨m, bound, rfl⟩
    exact ⟨m, by omega, rfl⟩

/-- The data of an Access Write are any whole number of words from 0 to 32 (R150, R168). -/
theorem reads_accessWrite : Reads ((List.range 33).map fun n => 7 + 4 * n) decodeAccessWrite := by
  intro fields
  rw [mem_writeLengths]
  unfold decodeAccessWrite
  split
  next v1 v0 a1 a0 c data =>
    simp only [List.length_cons]
    split
    next ws found =>
      have length : data.length = 4 * ws.length := by rw [wordsOf_eq_some found, length_flatMap_be32]
      split
      next short =>
        refine ⟨nofun, ⟨nofun, fun bad => absurd ⟨ws.length, short, by omega⟩ bad⟩⟩
      next long =>
        refine ⟨nofun, ⟨fun _ => ?_, fun _ => rfl⟩⟩
        rintro ⟨m, bound, same⟩
        exact long (by unfold Config.maxLaneWords; omega)
    next bad =>
      refine ⟨nofun, ⟨fun _ => ?_, fun _ => rfl⟩⟩
      rintro ⟨m, bound, same⟩
      obtain ⟨ws, found, _⟩ := wordsOf_of_length (n := m) (bytes := data) (by omega)
      rw [found] at bad
      cases bad
  next other =>
    refine ⟨nofun, ⟨fun _ => ?_, fun _ => rfl⟩⟩
    rintro ⟨m, bound, same⟩
    match fields, same with
    | a :: b :: c :: d :: e :: data, _ => exact other a b c d e data rfl
    | [], same => simp only [List.length_nil] at same; omega
    | [_], same => simp only [List.length_cons, List.length_nil] at same; omega
    | [_, _], same => simp only [List.length_cons, List.length_nil] at same; omega
    | [_, _, _], same => simp only [List.length_cons, List.length_nil] at same; omega
    | [_, _, _, _], same => simp only [List.length_cons, List.length_nil] at same; omega

theorem decodeRequest_of_unknown {r : HostRequest} (unknown : r.code ∉ requestCodes) : decodeRequest r = .unknown := by
  simp only [requestCodes, List.mem_cons, List.not_mem_nil, or_false, not_or] at unknown
  simp only [decodeRequest, unknown, if_false]

/-- Each request code has its reader, for the lengths of the last column of R168. -/
theorem decodeRequest_reads {r : HostRequest} (known : r.code ∈ requestCodes) :
    ∃ read, decodeRequest r = read r.fields ∧ Reads (bodyLengths r.code) read := by
  obtain ⟨code, tag, fields⟩ := r
  simp only [requestCodes, List.mem_cons, List.not_mem_nil, or_false] at known
  rcases known with rfl | rfl | rfl | rfl | rfl | rfl | rfl | rfl | rfl | rfl | rfl | rfl | rfl | rfl | rfl | rfl | rfl |
    rfl | rfl | rfl
  · exact ⟨_, rfl, reads_oneByte (f := fun _ => .queryPart) fun _ => ⟨nofun, nofun⟩⟩
  · exact ⟨_, rfl, reads_setParameters⟩
  · exact ⟨_, rfl, reads_oneByte (f := fun _ => .readParameters) fun _ => ⟨nofun, nofun⟩⟩
  · exact ⟨_, rfl, reads_oneByte fun _ => ⟨nofun, nofun⟩⟩
  · exact ⟨_, rfl, reads_defineClass⟩
  · exact ⟨_, rfl, reads_oneHalf fun _ => ⟨nofun, nofun⟩⟩
  · exact ⟨_, rfl, reads_oneByte fun _ => ⟨nofun, nofun⟩⟩
  · exact ⟨_, rfl, reads_oneByte fun _ => ⟨nofun, nofun⟩⟩
  · exact ⟨_, rfl, reads_oneByte fun _ => ⟨nofun, nofun⟩⟩
  · exact ⟨_, rfl, reads_oneHalf fun _ => ⟨nofun, nofun⟩⟩
  · exact ⟨_, rfl, reads_oneByte fun _ => ⟨nofun, nofun⟩⟩
  · exact ⟨_, rfl, reads_oneByte fun _ => ⟨nofun, nofun⟩⟩
  · exact ⟨_, rfl, reads_oneByte fun _ => ⟨nofun, nofun⟩⟩
  · exact ⟨_, rfl, reads_accessRead⟩
  · exact ⟨_, rfl, reads_accessWrite⟩
  · exact ⟨_, rfl, reads_oneByte (f := fun t => .cancelAccess (byteOf t)) fun _ => ⟨nofun, nofun⟩⟩
  · exact ⟨_, rfl, reads_oneHalf fun _ => ⟨nofun, nofun⟩⟩
  · exact ⟨_, rfl, reads_oneHalf fun _ => ⟨nofun, nofun⟩⟩
  · exact ⟨_, rfl, reads_setEventEnable⟩
  · exact ⟨_, rfl, reads_readCounters⟩

theorem decodeRequest_eq_unknown_iff (r : HostRequest) : decodeRequest r = .unknown ↔ r.code ∉ requestCodes := by
  refine ⟨fun unknown known => ?_, decodeRequest_of_unknown⟩
  obtain ⟨read, same, reads⟩ := decodeRequest_reads known
  exact (reads r.fields).1 (same.symm.trans unknown)

theorem decodeRequest_eq_badFormat_iff (r : HostRequest) :
    decodeRequest r = .badFormat ↔ r.code ∈ requestCodes ∧ r.fields.length + 2 ∉ bodyLengths r.code := by
  by_cases known : r.code ∈ requestCodes
  · obtain ⟨read, same, reads⟩ := decodeRequest_reads known
    rw [same, (reads r.fields).2]
    simp [known]
  · rw [decodeRequest_of_unknown known]
    simp [known]

/-- Settles O12: the code has a reader or not, and the reader takes the length or not. -/
theorem unknownRequestAnswered : Obligations.UnknownRequestAnswered := by
  unfold Obligations.UnknownRequestAnswered
  intro r
  refine ⟨decodeRequest_eq_unknown_iff r, decodeRequest_eq_badFormat_iff r, fun s offer => ⟨fun unknown => ?_,
    fun known length => ?_⟩⟩
  · exact offer.exec_command ((decodeRequest_eq_unknown_iff r).mpr unknown)
  · exact offer.exec_command ((decodeRequest_eq_badFormat_iff r).mpr ⟨known, length⟩)

theorem decodeAccessWrite_words (v1 v0 a1 a0 c : Byte) {ws : List Word} (short : ws.length ≤ 32) :
    decodeAccessWrite (v1 :: v0 :: a1 :: a0 :: c :: ws.flatMap be32) =
      .accessWrite (num16 v1 v0) (num16 a1 a0) c.toNat ws := by
  rw [decodeAccessWrite, wordsOf_flatMap_be32]
  exact if_pos short

theorem byteOf_toNat (b : Byte) : byteOf b.toNat = b := BitVec.ofNat_toNat 8 b

/-- Settles O13: by the readers; the words of an Access Write are read back from their bytes. -/
theorem requestFields : Obligations.RequestFields := by
  unfold Obligations.RequestFields
  intro tag a b c d e f g h i j k ws
  refine ⟨rfl, rfl, rfl, rfl, rfl, rfl, rfl, rfl, rfl, rfl, rfl, rfl, rfl, rfl, fun short => ?_, ?_, rfl, rfl, rfl, rfl⟩
  · exact decodeAccessWrite_words a b c d e short
  · exact congrArg Request.cancelAccess (byteOf_toNat a)

/-! ## The reports (R33, R57, R80, R156) -/

/-- The sum of flag bytes has a flag at each bit. -/
theorem entryFlags_getLsbD (a b c : Bool) :
    let flags : Byte := boolByte a + 2 * boolByte b + 4 * boolByte c
    flags.getLsbD 0 = a ∧ flags.getLsbD 1 = b ∧ flags.getLsbD 2 = c ∧ flags.toNat < 2 ^ 3 := by
  revert a b c
  decide

theorem slotFlags_getLsbD (a b c d e f : Bool) :
    let flags : Byte :=
      boolByte a + 2 * boolByte b + 4 * boolByte c + 8 * boolByte d + 16 * boolByte e + 32 * boolByte f
    flags.getLsbD 0 = a ∧ flags.getLsbD 1 = b ∧ flags.getLsbD 2 = c ∧ flags.getLsbD 3 = d ∧ flags.getLsbD 4 = e ∧
      flags.getLsbD 5 = f ∧ flags.toNat < 2 ^ 6 := by
  revert a b c d e f
  decide

theorem getLsbD_of_toNat_lt {b : Byte} {n i : Nat} (small : b.toNat < 2 ^ n) (high : n ≤ i) : b.getLsbD i = false :=
  Nat.testBit_lt_two_pow (small.trans_le (Nat.pow_le_pow_right (by decide) high))

theorem Entry.toBytes_eq (e : Entry) :
    ∃ flags : Byte,
      e.toBytes =
        (match e.kind with
          | .window _ => (1 : Byte)
          | .heldAnchor => 2
          | .reserve => 3
          | .vacancy => 4
          | .fence => 5) :: flags :: (be16 e.base ++ be16 e.size ++ be16 e.classCode
        ++ (match e.kind with
          | .window k => [byteOf k.val]
          | _ => [0])
        ++ (match e.events with
          | some range => [byteOf range.base, byteOf range.span]
          | none => [0, 0])) ∧
      flags.getLsbD 0 = e.anchored ∧ (flags.getLsbD 1 = true ↔ ∃ k, e.kind = .window k) ∧
      flags.getLsbD 2 = e.events.isSome ∧ ∀ i, 3 ≤ i → flags.getLsbD i = false := by
  obtain ⟨anchored, window, events, small⟩ := entryFlags_getLsbD e.anchored e.kind.slot?.isSome e.events.isSome
  refine ⟨_, ?_, anchored, ?_, events, fun i high => getLsbD_of_toNat_lt small high⟩
  · clear anchored window events small
    obtain ⟨kind, base, size, code, anchored, events⟩ := e
    cases kind <;> cases events <;> rfl
  · rw [window]
    cases e.kind <;> simp [EntryKind.slot?]

theorem byteOf_zero : byteOf 0 = 0 := rfl

theorem be16_zero : be16 0 = [0, 0] := rfl

theorem be32_zero : be32 0#32 = [0, 0, 0, 0] := rfl

theorem SlotReport.toBytes_eq (p : SlotReport) :
    ∃ flags : Byte,
      p.toBytes =
        [byteOf p.slot.val, p.state.stateByte, p.state.reasonByte, flags]
          ++ (match p.identity with
            | some id => be16 id.classCode ++ [byteOf id.eventCount] ++ be16 id.revision
              ++ (match id.serial with
                | some serial => be32 serial
                | none => [0, 0, 0, 0])
            | none => [0, 0, 0, 0, 0, 0, 0, 0, 0])
          ++ be16 p.joinCount ++ [byteOf p.failures, byteOf p.transactionsHeld] ++ be16 p.generation
          ++ (match p.window with
            | some e => be16 e.base ++ be16 e.size
            | none => [0, 0, 0, 0])
          ++ (match p.window.bind Entry.events with
            | some range => [byteOf range.base, byteOf range.span]
            | none => [0, 0]) ∧
      flags.getLsbD 0 = decide (p.state = .draining true) ∧ flags.getLsbD 1 = p.identity.isSome ∧
      flags.getLsbD 2 = (p.identity.bind Identity.serial).isSome ∧ flags.getLsbD 3 = p.window.isSome ∧
      (flags.getLsbD 4 = true ↔ ∃ e, p.window = some e ∧ e.anchored = true) ∧
      flags.getLsbD 5 = (p.window.bind Entry.events).isSome ∧ ∀ i, 6 ≤ i → flags.getLsbD i = false := by
  obtain ⟨halt, identity, serial, window, anchored, events, small⟩ :=
    slotFlags_getLsbD p.state.haltSent p.identity.isSome (p.identity.bind Identity.serial).isSome p.window.isSome
      ((p.window.map Entry.anchored).getD false) (p.window.bind Entry.events).isSome
  refine ⟨_, ?_, halt.trans ?_, identity, serial, window, ?_, events, fun i high => getLsbD_of_toNat_lt small high⟩
  · clear halt identity serial window anchored events small
    obtain ⟨slot, state, identity, joinCount, failures, held, generation, window⟩ := p
    rcases identity with _ | ⟨code, count, revision, _ | serial⟩
    all_goals
      rcases window with _ | ⟨kind, base, size, class_, anchored, _ | range⟩ <;>
        simp [SlotReport.toBytes, slotByte, be16_zero, be32_zero, byteOf_zero]
  · cases p.state with
    | draining haltSent => cases haltSent <;> rfl
    | _ => rfl
  · rw [anchored]
    cases p.window <;> simp

section
variable {s : State} {r : HostRequest} (offer : s.Offers r) {start : Nat}
include offer

theorem exec_readPlacement_of_offers (request : decodeRequest r = .readPlacement start) :
    exec .readPlacement s =
      .next (if 191 < start then s.dropHead.answer r .badParam .none
        else s.dropHead.answer r .ok (.placementPage s.pe.generation s.pe.stamp s.pe.placement.length start
          (pageOf s.pe.placement start))).transmit := offer.exec_command request

theorem exec_readDraft_of_offers (request : decodeRequest r = .readDraft start) :
    exec .readDraft s =
      .next (if 191 < start then s.dropHead.answer r .badParam .none
        else s.dropHead.answer r .ok (.draftPage s.pe.stamp s.draftInputs.fittedCount s.draftInputs.unfitCount
          s.draftInputs.draft.length start (pageOf s.draftInputs.draft start))).transmit := offer.exec_command request

end

/-- Settles O14: the reports are what their requests answer, and their bytes are those of R169 by definition. -/
theorem reportsChangeNothing : Obligations.ReportsChangeNothing := by
  unfold Obligations.ReportsChangeNothing
  intro s r offer
  refine ⟨fun request => offer.exec_command request, fun start request => ⟨fun inside => ?_, fun outside => ?_⟩,
    fun start request => ⟨fun inside => ?_, fun outside => ?_⟩, fun slot request => ⟨fun k same => ?_, fun outside => ?_⟩,
    fun p => rfl, fun _ _ _ _ _ => rfl, fun _ _ _ _ _ _ => rfl, Entry.toBytes_eq, fun p => SlotReport.toBytes_eq p⟩
  · rw [exec_readPlacement_of_offers offer request, if_neg (Nat.not_lt.mpr inside)]
    rfl
  · rw [exec_readPlacement_of_offers offer request, if_pos outside]
    rfl
  · rw [exec_readDraft_of_offers offer request, if_neg (Nat.not_lt.mpr inside)]
    rfl
  · rw [exec_readDraft_of_offers offer request, if_pos outside]
    rfl
  · subst same
    refine (offer.exec_command request).trans ?_
    change Host.Outcome.next (s.dropHead.serveReadSlot r k.val).transmit = _
    rw [State.serveReadSlot, slotNo?_val]
    rfl
  · refine (offer.exec_command request).trans ?_
    change Host.Outcome.next (s.dropHead.serveReadSlot r slot).transmit = _
    rw [State.serveReadSlot, slotNo?_ge outside]
    rfl

end Sys2Proof.Machine
end

section
/-! SUPPORT. The operations of the model in the terms of the statements: a Slot Controller or a lane replaced, a slot that has
departed, transactions that have ended. -/

namespace Sys2Proof.Machine

-- One proof at a time: many side by side take a thread and its stack each.
set_option Elab.async false

/-! ## One Slot Controller replaced -/

theorem State.modSlot_eq (s : State) (k : SlotNo) (f : Slot → Slot) : s.modSlot k f = s.withSlot k (f (s.slot k)) := rfl

theorem State.modLane_eq (s : State) (k : SlotNo) (f : Lane → Lane) :
    s.modLane k f = s.withLane k (f (s.slot k).lane) := rfl

theorem State.countLane_eq (s : State) (k : SlotNo) (f : LaneCounters → LaneCounters) :
    s.countLane k f = s.withLane k { (s.slot k).lane with counters := f (s.slot k).lane.counters } := rfl

@[simp] theorem State.slot_withSlot (s : State) (k : SlotNo) (sl : Slot) : (s.withSlot k sl).slot k = sl :=
  State.slot_modSlot_self s k fun _ => sl

@[simp] theorem State.slot_withLane (s : State) (k : SlotNo) (l : Lane) :
    (s.withLane k l).slot k = { s.slot k with lane := l } := s.slot_withSlot k _

@[simp] theorem State.withSlot_withSlot (s : State) (k : SlotNo) (a b : Slot) :
    (s.withSlot k a).withSlot k b = s.withSlot k b := by
  unfold State.withSlot
  congr 1
  exact Vector.set_set ..

@[simp] theorem State.withLane_withSlot (s : State) (k : SlotNo) (l : Lane) (sl : Slot) :
    (s.withLane k l).withSlot k sl = s.withSlot k sl := s.withSlot_withSlot k _ sl

@[simp] theorem State.withSlot_withLane (s : State) (k : SlotNo) (sl : Slot) (l : Lane) :
    (s.withSlot k sl).withLane k l = s.withSlot k { sl with lane := l } := by
  rw [State.withLane, State.slot_withSlot, State.withSlot_withSlot]

@[simp] theorem State.withLane_withLane (s : State) (k : SlotNo) (a b : Lane) :
    (s.withLane k a).withLane k b = s.withLane k b := by
  rw [State.withLane, State.slot_withLane, State.withLane_withSlot]
  rfl

theorem State.withSlot_slot (s : State) (k : SlotNo) : s.withSlot k (s.slot k) = s := by
  unfold State.withSlot State.slot
  rw [show s.slots.set k s.slots[k] = s.slots from Vector.set_getElem_self _]

/-! ## The lane without its exchange (R88, R92, R93) -/

theorem Lane.abandon_eq (l : Lane) : l.abandon = l.abandoned := rfl

theorem LaneSending.orphan_orphan (f : LaneSending) :
    (f.orphan .exchange).orphan .eventAnswer = { f with source := .abandoned } := by
  obtain ⟨source, replyTime, bytes⟩ := f
  cases source <;> rfl

theorem Lane.quiesce_eq (l : Lane) : l.quiesce = l.cleared := by
  simp only [Lane.quiesce, LaneSending.orphan_orphan]
  rfl

/-! ## Departures (R48, R49, R95) -/

theorem Slot.enter_eq (sl : Slot) {st : SlotState} (out : st.participates = false) :
    sl.enter st = { sl with state := st, lane := { sl.lane with resyncRequired := false } } := by
  rw [Slot.enter, out, Bool.and_false]

theorem State.leave_eq_departed (s : State) (k : SlotNo) {st : SlotState} (out : st.participates = false) :
    s.leave k st =
      { s.withSlot k { s.slot k with state := st, lane := { (s.slot k).lane with resyncRequired := false } } with
        pe := s.departed k } := by
  rw [State.leave_eq, ← Slot.enter_eq _ out]
  rfl

/-- What a slot has lost of the layout depends on its state and on the placement only (R48, R49). -/
theorem State.departed_congr {s t : State} {k : SlotNo} (state : (t.slot k).state = (s.slot k).state) (pe : t.pe = s.pe) :
    t.departed k = s.departed k := by
  unfold State.departed
  rw [state, pe]

theorem State.departed_of_absent {s : State} {k : SlotNo} (absent : (s.slot k).state.participates = false) :
    s.departed k = s.pe := by
  have windowless : (s.slot k).state.holdsWindow = false := by
    refine Bool.eq_false_iff.mpr fun holds => ?_
    rw [SlotState.participates_of_holdsWindow holds] at absent
    cases absent
  unfold State.departed
  rw [absent, windowless]
  rfl

/-! ## Transactions that have ended (R107, R117 to R119) -/

theorem Pool.setOwner_append (pool : Pool) (a b : List BlockNo) (owner : BlockOwner) :
    (pool.setOwner a owner).setOwner b owner = pool.setOwner (a ++ b) owner := by
  refine Vector.ext fun i hi => ?_
  have old := Pool.setOwner_get pool a owner ⟨i, hi⟩
  have new := Pool.setOwner_get (pool.setOwner a owner) b owner ⟨i, hi⟩
  have both := Pool.setOwner_get pool (a ++ b) owner ⟨i, hi⟩
  simp only [Fin.getElem_fin] at old new both
  rw [new, both, old]
  by_cases ha : (⟨i, hi⟩ : BlockNo) ∈ a <;> by_cases hb : (⟨i, hi⟩ : BlockNo) ∈ b <;> simp [ha, hb]

theorem Pool.setOwner_nil (pool : Pool) (owner : BlockOwner) : pool.setOwner [] owner = pool := by
  refine Vector.ext fun i hi => ?_
  have same := Pool.setOwner_get pool [] owner ⟨i, hi⟩
  simpa using same

theorem Pool.foldl_setOwner (ts : List Transaction) (pool : Pool) :
    ts.foldl (fun p t => p.setOwner t.blocks .free) pool = pool.setOwner (ts.flatMap Transaction.blocks) .free := by
  induction ts generalizing pool with
  | nil => exact (pool.setOwner_nil .free).symm
  | cons t ts ih => rw [List.foldl_cons, ih, Pool.setOwner_append, List.flatMap_cons]

theorem State.EndsAll.eq_ended {s t : State} {ts : List Transaction} {f : Transaction → Reply} (h : s.EndsAll t ts f)
    (distinct : s.TagsDistinct) (present : ∀ u ∈ ts, u ∈ s.transactions) : t = s.ended ts f := by
  have entries : t.transactions = s.transactions.filter fun u => decide (u ∉ ts) := by
    refine h.transactions.trans (List.filter_congr fun u hu => ?_)
    refine Bool.eq_iff_iff.mpr ⟨fun all => decide_eq_true fun member => ?_, fun absent => List.all_eq_true.mpr fun t ht => ?_⟩
    · simpa using List.all_eq_true.mp all u member
    · have other : u.tag ≠ t.tag := fun same =>
        of_decide_eq_true absent (State.eq_of_tag_eq distinct hu (present t ht) same ▸ ht)
      rw [beq_false_of_ne other, Bool.not_false]
  have pool : t.pool = s.pool.setOwner (ts.flatMap Transaction.blocks) .free := h.pool.trans (Pool.foldl_setOwner ts s.pool)
  obtain ⟨held, params, hli, pe, slots, -, -, au, pending⟩ := h
  cases t
  dsimp only at *
  subst held params hli pe slots entries pool au pending
  rfl

theorem State.endTenure_eq {s : State} (distinct : s.TagsDistinct) (k : SlotNo) (status : Status) :
    s.endTenure k status = s.ended (s.transactions.filter fun t => t.slot = k) fun t => t.tenureReply status :=
  (s.endTenure_spec k status).eq_ended distinct fun _ h => (State.mem_laneQueue.mp h).1

section
variable {s : State} (distinct : s.TagsDistinct) {t : Transaction} (present : t ∈ s.transactions)
include distinct present

theorem State.endWithout_eq (status : Status) :
    s.endWithout t status = s.ended [t] fun t => t.replyWith status (.generation t.generation) :=
  State.EndsAll.eq_ended ⟨rfl, rfl, by simp [Transaction.replyWith], rfl, rfl, by simp, rfl, rfl, rfl⟩ distinct
    (by simpa using present)

theorem State.endCancelled_eq (outcome : CancelOutcome) :
    s.endCancelled t outcome = s.ended [t] fun t => t.replyWith .cancelled (.cancelled t.generation outcome) :=
  State.EndsAll.eq_ended ⟨rfl, rfl, by simp [Transaction.replyWith], rfl, rfl, by simp, rfl, rfl, rfl⟩ distinct
    (by simpa using present)

end

end Sys2Proof.Machine
end

section
/-! SUPPORT. Parameters, counters, notices and blocks: the statements about the requests that serve them. -/

namespace Sys2Proof.Machine

-- One proof at a time: many side by side take a thread and its stack each.
set_option Elab.async false

/-! ## Parameters (R158) -/

theorem State.setParams_eq (s : State) (p : Params) :
    s.setParams p =
      { s with
        params := p
        pe := { s.pe with stamp := if p.runBase = s.params.runBase then s.pe.stamp else nextStamp s.pe.stamp } } := by
  unfold State.setParams
  by_cases same : p.runBase = s.params.runBase
  · rw [if_pos same, decide_eq_false (not_not.mpr same)]
    rfl
  · rw [if_neg same, decide_eq_true same]
    rfl

/-- Settles O16. -/
theorem setParametersApplied : Obligations.SetParametersApplied := by
  unfold Obligations.SetParametersApplied
  intro s r f offer request
  refine ⟨fun p range same => ?_, fun bad =>
    exec_setParameters_of_refused offer request (ParamFields.check_eq_none bad)⟩
  subst same
  rw [exec_setParameters_of_passed offer request (ParamFields.check_fields range), State.setParams_eq]
  rfl

/-! ## Counters (R161) -/

section
variable {s : State} {r : HostRequest} (offer : s.Offers r) {selector lane clear : Nat}
include offer

theorem exec_readCounters_of_offers (request : decodeRequest r = .readCounters selector lane clear) :
    exec .readCounters s = .next (s.dropHead.serveReadCounters r selector lane clear).transmit :=
  offer.exec_command request

end

/-- Settles O17: each selector and clear flag is one branch of the answer. -/
theorem readCountersReports : Obligations.ReadCountersReports := by
  unfold Obligations.ReadCountersReports
  intro s r selector lane clear offer request
  rw [exec_readCounters_of_offers offer request]
  refine ⟨?_, ?_, ?_, ?_, fun bad => ?_⟩
  · rintro rfl rfl
    rfl
  · rintro rfl rfl
    rfl
  · rintro k rfl rfl rfl
    simp only [State.serveReadCounters, slotNo?_val]
    rfl
  · rintro k rfl rfl rfl
    simp only [State.serveReadCounters, slotNo?_val]
    rfl
  · have refused : s.dropHead.serveReadCounters r selector lane clear = s.replied r .badParam .none := by
      unfold State.serveReadCounters
      rcases bad with flag | selects | ⟨rfl, high⟩
      · rw [if_pos flag]
        rfl
      · rw [if_neg (by omega : ¬selector = 0), if_neg (by omega : ¬selector = 1), ite_self]
        rfl
      · by_cases flag : 1 < clear
        · rw [if_pos flag]
          rfl
        · rw [if_neg flag, if_neg one_ne_zero, if_pos rfl, slotNo?_ge high]
          rfl
    rw [refused]

/-! ## The place of a sequence number in the queue (R127) -/

/-- The sequence numbers count on from the oldest and pass from 65535 to 1. -/
theorem seq_of_consecutive {older newer : List Notice} {oldest n : Notice} {next : Nat}
    (numbering : consecutive (older ++ n :: newer) next) (numbers : ∀ m ∈ older ++ n :: newer, 1 ≤ m.seq ∧ m.seq ≤ 65535)
    (short : older.length ≤ 64) (head : (older ++ n :: newer).head? = some oldest) :
    n.seq = if oldest.seq + older.length ≤ 65535 then oldest.seq + older.length
      else oldest.seq + older.length - 65535 := by
  induction older generalizing oldest with
  | nil =>
    obtain rfl : n = oldest := Option.some.inj head
    have := numbers n (by simp)
    rw [List.length_nil, if_pos (by omega)]
    rfl
  | cons a older ih =>
    obtain rfl : a = oldest := Option.some.inj head
    have bounds := numbers a (by simp)
    obtain ⟨m, rest, follows⟩ : ∃ m rest, older ++ n :: newer = m :: rest := by
      cases older with
      | nil => exact ⟨n, newer, rfl⟩
      | cons m older => exact ⟨m, _, rfl⟩
    have count : m.seq = nextSequence a.seq := by
      rw [List.cons_append, follows] at numbering
      exact numbering.1
    have rest_short : older.length + 1 ≤ 64 := short
    have seq := ih (consecutive_tail numbering) (fun x hx => numbers x (List.mem_cons_of_mem _ hx)) (by omega)
      (by rw [follows]; rfl)
    rw [seq, List.length_cons]
    by_cases last : a.seq < 65535
    · have count : m.seq = a.seq + 1 := count.trans (if_pos last)
      split <;> split <;> omega
    · have count : m.seq = 1 := count.trans (if_neg last)
      split <;> split <;> omega

section
variable {au : AttentionUnit} (consistent : au.Consistent) {q : Nat}
include consistent

theorem AttentionUnit.position?_of_queued {older newer : List Notice} {n : Notice} (queue : au.queue = older ++ n :: newer)
    (seq : n.seq = q) : au.position? q = some older.length := by
  have length := consistent.length
  have numbers := consistent.numbers
  have numbering := consistent.numbering
  rw [queue] at length numbers numbering
  rw [List.length_append, List.length_cons] at length
  obtain ⟨oldest, rest, split⟩ : ∃ oldest rest, older ++ n :: newer = oldest :: rest := by
    cases older with
    | nil => exact ⟨n, newer, rfl⟩
    | cons m older => exact ⟨m, _, rfl⟩
  have place := seq_of_consecutive numbering numbers (by omega) (by rw [split]; rfl)
  have first := numbers oldest (by rw [split]; exact List.mem_cons_self)
  have own := numbers n (by simp)
  have total : au.queue.length = older.length + (newer.length + 1) := by rw [queue, List.length_append, List.length_cons]
  rw [split] at queue
  have distance : (if oldest.seq ≤ q then q - oldest.seq else q + 65535 - oldest.seq) = older.length := by
    subst seq
    split at place <;> split <;> omega
  simp only [AttentionUnit.position?, queue, Config.max16, distance]
  rw [← queue, total, if_pos ⟨by omega, by omega, by omega⟩]

theorem AttentionUnit.position?_of_absent (absent : ∀ n ∈ au.queue, n.seq ≠ q) : au.position? q = none := by
  cases found : au.position? q with
  | none => rfl
  | some p =>
    exfalso
    cases queue : au.queue with
    | nil => exact AttentionUnit.position?_nonempty found queue
    | cons oldest rest =>
      simp only [AttentionUnit.position?, queue, Config.max16] at found
      generalize distance : (if oldest.seq ≤ q then q - oldest.seq else q + 65535 - oldest.seq) = d at found
      split at found
      next inside =>
        obtain ⟨low, high, inside⟩ := inside
        obtain rfl : d = p := Option.some.inj found
        have parts : oldest :: rest = (oldest :: rest).take d ++ (oldest :: rest)[d] :: (oldest :: rest).drop (d + 1) := by
          rw [List.getElem_cons_drop, List.take_append_drop]
        have numbering := consistent.numbering
        have numbers := consistent.numbers
        have length := consistent.length
        rw [queue] at length
        rw [queue, parts] at numbering numbers
        have count : ((oldest :: rest).take d).length = d := List.length_take_of_le inside.le
        have place := seq_of_consecutive numbering numbers (by omega) (by rw [← parts]; rfl)
        have first := numbers oldest (by rw [← parts]; exact List.mem_cons_self)
        refine absent ((oldest :: rest)[d]) (by rw [queue]; exact List.getElem_mem inside) ?_
        rw [place, count]
        split at distance <;> split <;> omega
      next => cases found

end

/-! ## Notices acknowledged, sent again, enabled and posted (R127 to R139) -/

theorem State.forgetNotice_eq (s : State) {gone : Nat → Bool} {seqs : List Nat} (same : ∀ q, gone q = true ↔ q ∈ seqs) :
    s.forgetNotice gone = { s with hli := s.hli.forgets seqs } := by
  have forgets : gone = fun q => decide (q ∈ seqs) := funext fun q => by
    rw [Bool.eq_iff_iff, same, decide_eq_true_iff]
  subst forgets
  dsimp only [State.forgetNotice, HostLink.forgets]
  congr 3
  funext f
  cases source : f.source with
  | notice q => by_cases member : q ∈ seqs <;> simp [member]
  | _ => rfl

section
variable {s : State} {r : HostRequest} (offer : s.Offers r) {q : Nat}
include offer

theorem exec_acknowledge_of_offers (request : decodeRequest r = .acknowledgeNotices q) :
    exec .acknowledgeNotices s = .next (s.dropHead.serveAcknowledge r q).transmit := offer.exec_command request

theorem exec_resend_of_offers (request : decodeRequest r = .resendNotices q) :
    exec .resendNotices s = .next (s.dropHead.serveResend r q).transmit := offer.exec_command request

end

/-- Settles O50: the place of the number in the queue is what `AttentionUnit.position?` finds. -/
theorem acknowledgeEffects : Obligations.AcknowledgeEffects := by
  unfold Obligations.AcknowledgeEffects
  intro s r q offer request consistent
  rw [exec_acknowledge_of_offers offer request]
  refine ⟨fun absent => ?_, fun older n newer queue seq => ?_⟩
  · rw [State.serveAcknowledge, State.dropHead_au, AttentionUnit.position?_of_absent consistent absent]
    rfl
  · have taken : s.au.queue.take (older.length + 1) = older ++ [n] := by simp [queue, List.take_append]
    have left : s.au.queue.drop (older.length + 1) = newer := by simp [queue, List.drop_append]
    rw [State.serveAcknowledge, State.dropHead_au, AttentionUnit.position?_of_queued consistent queue seq]
    dsimp only
    rw [State.forgetNotice_eq _ (seqs := (older ++ [n]).map Notice.seq) fun x => by
      rw [taken, List.any_eq_true, List.mem_map]
      simp only [beq_iff_eq], AttentionUnit.acknowledge, left]
    unfold AttentionUnit.summarise
    cases due : s.au.summaryDue <;> rfl

/-- Settles O51: the place of the number in the queue is what `AttentionUnit.position?` finds. -/
theorem resendEffects : Obligations.ResendEffects := by
  unfold Obligations.ResendEffects
  intro s r q offer request consistent
  rw [exec_resend_of_offers offer request]
  refine ⟨fun absent => ?_, fun older n newer queue seq => ?_⟩
  · rw [State.serveResend, State.dropHead_au, AttentionUnit.position?_of_absent consistent absent]
    rfl
  · rw [State.serveResend, State.dropHead_au, AttentionUnit.position?_of_queued consistent queue seq]
    dsimp only
    rw [AttentionUnit.resend, queue, List.take_left, List.drop_left]
    rfl

/-- Settles O52: the flags of the range are what `setFlags` sets. -/
theorem setEventEnableEffects : Obligations.SetEventEnableEffects := by
  unfold Obligations.SetEventEnableEffects
  intro s r first count setting offer request
  have served : exec .setEventEnable s = .next (s.dropHead.serveEventEnable r first count setting).transmit :=
    offer.exec_command request
  refine ⟨fun bad => ?_, fun some within either => ⟨_, served, ?_⟩⟩
  · rw [served, State.serveEventEnable, if_pos (show count = 0 ∨ Config.eventSpace < first + count ∨ 1 < setting from bad)]
    rfl
  · have good : ¬(count = 0 ∨ Config.eventSpace < first + count ∨ 1 < setting) := by
      simp only [Config.eventSpace]
      omega
    rw [State.serveEventEnable, if_neg good]
    refine ⟨rfl, fun n => ?_⟩
    rw [State.answer_au]
    exact Vector.getElem_ofFn _

/-- Settles O53: the three branches of a posting, and the count notice by notice. -/
theorem postingRule : Obligations.PostingRule := by
  unfold Obligations.PostingRule
  intro au kind
  refine ⟨fun calm room => ?_, fun calm full => ?_, fun due => ?_, rfl, fun n rest => ?_⟩
  · rw [AttentionUnit.post, if_neg (by rw [calm]; exact Bool.false_ne_true), if_pos (show au.queue.length < Config.attentionCapacity from room)]
    rfl
  · rw [AttentionUnit.post, if_neg (by rw [calm]; exact Bool.false_ne_true), if_neg (show ¬au.queue.length < Config.attentionCapacity from Nat.not_lt.mpr full)]
  · have stops : bumpLost au.lostCount = min (au.lostCount + 1) 65535 := by
      unfold bumpLost Config.max16
      split <;> omega
    rw [AttentionUnit.post, if_pos due, stops]
  · unfold AttentionUnit.eventCount
    obtain ⟨seq, kind, delivery⟩ := n
    cases kind <;> rfl

/-! ## Words in blocks (R106, R107) -/

/-- Blocks whose words are those of a list, 8 to a block in the order of the blocks, hold the list. -/
theorem flatMap_take_eq (g : BlockNo → Vector Word 8) {blocks : List BlockNo} {ws : List Word} (nodup : blocks.Nodup)
    (fits : ws.length ≤ 8 * blocks.length)
    (words : ∀ b ∈ blocks, ∀ i : Fin 8, ∀ inside : 8 * blocks.idxOf b + i.val < ws.length,
      (g b)[i] = ws[8 * blocks.idxOf b + i.val]) :
    (blocks.flatMap fun b => (g b).toList).take ws.length = ws := by
  induction blocks generalizing ws with
  | nil =>
    obtain rfl : ws = [] := List.eq_nil_of_length_eq_zero (by simpa using fits)
    rfl
  | cons b blocks ih =>
    obtain ⟨fresh, nodup⟩ := List.nodup_cons.mp nodup
    have first : (g b).toList.take ws.length = ws.take 8 := by
      refine List.ext_getElem (by simp [Nat.min_comm]) fun i left right => ?_
      have small : i < 8 ∧ i < ws.length := by simpa [Nat.lt_min] using right
      have word := words b List.mem_cons_self ⟨i, small.1⟩ (by simpa using small.2)
      simpa using word
    have rest : (blocks.flatMap fun b => (g b).toList).take (ws.length - 8) = ws.drop 8 := by
      rw [← List.length_drop]
      refine ih nodup (by rw [List.length_drop]; simp at fits; omega) fun c hc i inside => ?_
      have other : b ≠ c := by
        rintro rfl
        exact fresh hc
      have place : (b :: blocks).idxOf c = blocks.idxOf c + 1 := List.idxOf_cons_ne _ other
      rw [List.length_drop] at inside
      rw [words c (List.mem_cons_of_mem _ hc) i (by rw [place]; omega), List.getElem_drop]
      congr 1
      rw [place]
      omega
    rw [List.flatMap_cons, List.take_append, first, Vector.length_toList, rest, List.take_append_drop]

theorem Pool.store_words (pool : Pool) {blocks : List BlockNo} {ws : List Word} {b : BlockNo} (hb : b ∈ blocks) (i : Fin 8)
    (inside : 8 * blocks.idxOf b + i.val < ws.length) :
    (pool.store blocks ws)[b].words[i] = ws[8 * blocks.idxOf b + i.val] := by
  simp [Pool.store, hb, List.getElem?_eq_getElem inside]

/-- Settles O48: the words block by block, and what the two operations on blocks leave alone. -/
theorem blocksCarryWords : Obligations.BlocksCarryWords := by
  unfold Obligations.BlocksCarryWords
  intro pool blocks ws nodup fits
  refine ⟨flatMap_take_eq _ nodup fits fun b hb i inside => pool.store_words hb i inside, pool.store_owner blocks ws,
    fun b absent => ?_, fun b owner => pool.setOwner_get blocks owner b⟩
  simp [Pool.store, absent]

end Sys2Proof.Machine
end

section
/-! SUPPORT. Commits, joins, holes and translation (R39 to R54): the statements about the Active Placement. -/

namespace Sys2Proof.Machine

-- One proof at a time: many side by side take a thread and its stack each.
set_option Elab.async false

/-! ## Commits (R50, R51) -/

theorem Slot.enter_of_participates (sl : Slot) {st : SlotState} (part : st.participates = true) :
    sl.enter st = { sl with state := st } := by
  rw [Slot.enter, part, Bool.and_true]

theorem Exchange.endRelease_eq (x : Exchange) :
    x.endRelease = if x.kind = .halt then { x with releaseEnded := true } else x := by
  by_cases halt : x.kind = .halt
  · rw [Exchange.endRelease, decide_eq_true halt, Bool.or_true, if_pos halt]
  · rw [Exchange.endRelease, decide_eq_false halt, Bool.or_false, if_neg halt]

theorem Slot.committed_of_waiting {sl : Slot} (part : sl.state.participates = true)
    (other : (sl.state.holdsWindow && sl.state != .placed) = false) :
    sl.committed false = { sl with state := .pending .noSpace } := by
  rw [Slot.committed, if_neg (by rw [part]; decide), if_neg Bool.false_ne_true]
  simp only [other, Bool.false_and, Bool.false_eq_true, if_false, Option.map_id']

theorem Slot.commit_eq_committed (sl : Slot) (fitted : Bool) : sl.commit fitted = sl.committed fitted := by
  obtain ⟨presence, state, settle, identity, joinCount, failures, lane⟩ := sl
  cases state with
  | pending reason =>
    cases fitted
    · rw [Slot.committed_of_waiting rfl rfl]
      exact Slot.enter_of_participates _ rfl
    · exact Slot.enter_of_participates _ rfl
  | placed =>
    cases fitted
    · rw [Slot.committed_of_waiting rfl rfl]
      exact Slot.enter_of_participates _ rfl
    · rfl
  | draining haltSent =>
    cases fitted
    · simp only [Slot.commit, Slot.committed, Slot.enter_of_participates _ (st := .pending .noSpace) rfl,
        funext Exchange.endRelease_eq]
      simp [SlotState.participates, SlotState.holdsWindow]
    · rfl
  | _ => rfl

theorem State.losers_eq (s : State) (draft : List Entry) :
    s.losers draft = (List.finRange 16).filter fun k : SlotNo => (s.slot k).state.holdsWindow && !(windowOf draft k).isSome := by
  refine List.filter_congr fun k _ => ?_
  rw [Option.not_isSome]

theorem State.commit_eq_committed (s : State) (mark : CommitMark) :
    s.commit mark =
      { s with
        pe := { s.pe with
          placement := s.draftInputs.draft
          generation := nextGeneration s.pe.generation
          stamp := nextStamp s.pe.stamp }
        slots := Vector.ofFn fun k : Fin 16 => (s.slot k).committed (windowOf s.draftInputs.draft k).isSome
        au := (NoticeKind.placementCommitted (nextGeneration s.pe.generation) s.draftInputs.fittedCount
            s.draftInputs.unfitCount mark ::
          ((List.finRange 16).filter fun k : SlotNo =>
            (s.slot k).state.holdsWindow && !(windowOf s.draftInputs.draft k).isSome).map
              fun k => .placementPending k .noSpace).foldl AttentionUnit.post s.au } := by
  rw [State.commit_eq, State.commitNotices, State.losers_eq]
  simp only [Slot.commit_eq_committed]

theorem exec_commitPlacement_of_offers {s : State} {r : HostRequest} {stamp : Nat} (offer : s.Offers r)
    (request : decodeRequest r = .commitPlacement stamp) :
    exec .commitPlacement s = .next (s.dropHead.serveCommit r stamp).transmit := offer.exec_command request

/-- Settles O27: a commit in the terms of the statement is `State.commit_eq_committed`. -/
theorem commitInstallsDraft : Obligations.CommitInstallsDraft := by
  unfold Obligations.CommitInstallsDraft
  intro s r stamp offer request
  rw [exec_commitPlacement_of_offers offer request]
  refine ⟨fun other => ?_, fun same => ?_⟩
  · rw [State.serveCommit, if_neg (show ¬stamp = s.dropHead.pe.stamp from other)]
    rfl
  · rw [State.serveCommit, if_pos (show stamp = s.dropHead.pe.stamp from same), State.commit_eq_committed]
    rfl

/-! ## The conditions of a commit that is not requested (R45) -/

theorem sameWindow_iff {placement draft : List Entry} {k : SlotNo} :
    sameWindow placement draft k = true ↔
      ∃ d p, windowOf draft k = some d ∧ windowOf placement k = some p ∧ d.base = p.base ∧
        d.events.map EventRange.base = p.events.map EventRange.base := by
  unfold sameWindow
  cases windowOf draft k <;> cases windowOf placement k <;> simp

theorem keepsAnchor_iff {draft : List Entry} {e : Entry} :
    keepsAnchor draft e = true ↔ (e.kind = .heldAnchor ∨ (e.kind.isWindow = true ∧ e.anchored = true) →
      ∃ d ∈ draft, d.anchored = true ∧ d.classCode = e.classCode ∧ d.base = e.base) := by
  rw [keepsAnchor, Bool.or_eq_true, Bool.not_eq_true', ← Bool.not_eq_true, imp_iff_not_or]
  refine or_congr (not_congr ?_) ?_ <;> simp [and_assoc]

theorem State.nonDisruptive_iff (s : State) (draft : List Entry) : s.nonDisruptive draft = true ↔ s.Undisturbed draft := by
  rw [State.nonDisruptive, Bool.and_eq_true, List.all_eq_true, List.all_eq_true]
  refine and_congr ⟨fun all k holds => ?_, fun all k _ => ?_⟩ (forall₂_congr fun e _ => keepsAnchor_iff)
  · have kept := all k (mem_slotNumbers k)
    rw [holds] at kept
    exact sameWindow_iff.mp kept
  · cases holds : (s.slot k).state.holdsWindow
    · rfl
    · exact sameWindow_iff.mpr (all k holds)

/-! ## Joins (R42 to R46) -/

theorem State.entered_eq (s : State) (k : SlotNo) :
    s.entered k =
      { s.withSlot k { s.slot k with state := .pending .awaitingCommit } with
        pe := { s.pe with stamp := nextStamp s.pe.stamp } } := by
  rw [← Slot.enter_of_participates (s.slot k) (st := .pending .awaitingCommit) rfl]
  rfl

@[simp] theorem State.classCode_entered (s : State) (k : SlotNo) :
    ((s.entered k).slot k).classCode = (s.slot k).classCode := by
  rw [State.entered, State.slot_bumpStamp, State.slot_modSlot_self]
  rfl

@[simp] theorem State.joinCount_entered (s : State) (k : SlotNo) :
    ((s.entered k).slot k).joinCount = (s.slot k).joinCount := by
  rw [State.entered, State.slot_bumpStamp, State.slot_modSlot_self]
  rfl

@[simp] theorem State.identity_entered (s : State) (k : SlotNo) :
    ((s.entered k).slot k).identity = (s.slot k).identity := by
  rw [State.entered, State.slot_bumpStamp, State.slot_modSlot_self]
  rfl

section
variable {s : State} {k : SlotNo}

theorem State.join_of_hole {hole : Entry} (found : findHole s.pe.placement (s.slot k).classCode = some hole) :
    s.join k = ((s.entered k).filled hole k).postJoined k .placed := by
  rw [← s.classCode_entered k] at found
  unfold State.join
  dsimp only
  split
  next other same =>
    obtain rfl : hole = other := Option.some.inj (found.symm.trans same)
    rfl
  next none => cases found.symm.trans none

/-- Without a hole of its class the draft is committed where the policy and R45 allow it. -/
theorem State.join_of_commit (none : findHole s.pe.placement (s.slot k).classCode = none)
    (policy : s.params.joinPolicy = .autoCommit) (undisturbed : (s.entered k).Undisturbed (s.entered k).draftInputs.draft)
    (fits : windowOf (s.entered k).draftInputs.draft k ≠ .none) :
    s.join k = ((s.entered k).commit .automatic).postJoined k .placed := by
  rw [← s.classCode_entered k] at none
  unfold State.join
  dsimp only
  split
  next hole found => cases none.symm.trans found
  next =>
    split
    next other => cases policy.symm.trans other
    next => exact if_pos ⟨(State.nonDisruptive_iff _ _).mpr undisturbed, Option.isSome_iff_ne_none.mpr fits⟩

/-- Without a hole of its class the slot waits where the policy or R45 forbids a commit. -/
theorem State.join_of_wait (none : findHole s.pe.placement (s.slot k).classCode = none)
    (stays : s.params.joinPolicy = .autoCommit → ¬((s.entered k).Undisturbed (s.entered k).draftInputs.draft ∧
      windowOf (s.entered k).draftInputs.draft k ≠ .none)) :
    s.join k = (s.entered k).awaitCommit k := by
  rw [← s.classCode_entered k] at none
  unfold State.join
  dsimp only
  split
  next hole found => cases none.symm.trans found
  next =>
    split
    next => rfl
    next policy =>
      refine if_neg fun both => stays policy ⟨?_, Option.isSome_iff_ne_none.mp both.2⟩
      exact (State.nonDisruptive_iff _ _).mp both.1

end

theorem State.awaitCommit_eq (s : State) (k : SlotNo) :
    s.awaitCommit k =
      { s with
        au := (s.au.post (.moduleJoined k (s.slot k).classCode (s.slot k).joinCount .pending)).post
          (.placementPending k .awaitingCommit) } := rfl

theorem State.entered_awaitCommit (s : State) (k : SlotNo) :
    (s.entered k).awaitCommit k =
      { s.entered k with
        au := (s.au.post (.moduleJoined k (s.slot k).classCode (s.slot k).joinCount .pending)).post
          (.placementPending k .awaitingCommit) } := by
  rw [State.awaitCommit_eq, State.classCode_entered, State.joinCount_entered]
  rfl

theorem State.postJoined_eq {s u : State} {k : SlotNo} (identity : (u.slot k).identity = (s.slot k).identity)
    (joins : (u.slot k).joinCount = (s.slot k).joinCount) (outcome : JoinOutcome) :
    u.postJoined k outcome =
      { u with au := u.au.post (.moduleJoined k (s.slot k).classCode (s.slot k).joinCount outcome) } := by
  unfold State.postJoined Slot.classCode
  rw [identity, joins]
  rfl

theorem State.filled_entered_eq (s : State) (hole : Entry) (k : SlotNo) :
    (s.entered k).filled hole k =
      { s.withSlot k { s.slot k with state := .placed } with
        pe := { s.pe with placement := fillHole s.pe.placement hole k, stamp := nextStamp s.pe.stamp } } := by
  rw [State.entered_eq]
  change State.mk _ _ _ _ (State.modSlot (s.withSlot k _) k fun sl => sl.enter .placed).slots _ _ _ _ = _
  rw [State.modSlot_eq, State.slot_withSlot, State.withSlot_withSlot, Slot.enter_of_participates _ rfl]
  rfl

theorem Slot.committed_joinCount (sl : Slot) (fitted : Bool) : (sl.committed fitted).joinCount = sl.joinCount := by
  unfold Slot.committed
  split
  · rfl
  · split <;> rfl

/-- A commit that disturbs nothing has no loser (R45, R51). -/
theorem State.losers_of_undisturbed {s : State} {draft : List Entry} (undisturbed : s.Undisturbed draft) :
    s.losers draft = [] := by
  refine List.filter_eq_nil_iff.mpr fun k _ => ?_
  rw [Bool.and_eq_true, not_and]
  intro holds
  obtain ⟨d, p, placed, _⟩ := undisturbed.1 k holds
  rw [placed]
  exact Bool.false_ne_true

/-- Settles O28: the two ways of a join, with a hole and without. -/
theorem joinProcedure : Obligations.JoinProcedure := by
  unfold Obligations.JoinProcedure
  intro s k
  dsimp only
  rw [← State.entered_eq]
  refine ⟨fun hole found => ?_, fun none policy => ?_, fun none policy disturbed => ?_,
    fun none policy undisturbed fits => ?_⟩
  · have slot : ((s.entered k).filled hole k).slot k = ((s.entered k).slot k).enter .placed := by
      rw [State.slot_filled, if_pos rfl]
    have identity : (((s.entered k).filled hole k).slot k).identity = (s.slot k).identity := by
      rw [slot, Slot.enter_identity, State.identity_entered]
    have joins : (((s.entered k).filled hole k).slot k).joinCount = (s.slot k).joinCount := by
      rw [slot, Slot.enter_joinCount, State.joinCount_entered]
    rw [State.join_of_hole found, State.postJoined_eq identity joins, State.filled_entered_eq]
    rfl
  · rw [State.join_of_wait none (by rw [policy]; nofun), State.entered_awaitCommit, State.entered_eq]
  · rw [State.join_of_wait none fun _ => disturbed, State.entered_awaitCommit, State.entered_eq]
  · have identity : (((s.entered k).commit .automatic).slot k).identity = (s.slot k).identity := by
      rw [State.slot_commit, Slot.commit_identity, State.identity_entered]
    have joins : (((s.entered k).commit .automatic).slot k).joinCount = (s.slot k).joinCount := by
      rw [State.slot_commit, Slot.commit_eq_committed, Slot.committed_joinCount, State.joinCount_entered]
    rw [State.join_of_commit none policy undisturbed fits, State.postJoined_eq identity joins, State.commit_eq,
      State.commitNotices, State.losers_of_undisturbed undisturbed]
    simp only [Slot.commit_eq_committed]
    rfl

/-! ## Holes (R42, R48, R49) -/

/-- The first entry of a layout with a property is the one of the lowest base. -/
theorem LayoutConsistent.find?_eq_some_iff {placement : List Entry} (h : LayoutConsistent placement) {p : Entry → Bool}
    {e : Entry} :
    placement.find? p = some e ↔ (e ∈ placement ∧ p e = true) ∧ ∀ d, d ∈ placement ∧ p d = true → e.base ≤ d.base := by
  have below {before after : List Entry} {e : Entry} (parts : placement = before ++ e :: after) {d : Entry}
      (hd : d ∈ before) : d.base < e.base := by
    have words := h.words
    rw [parts] at words
    have size := (h.valid d (by rw [parts]; exact List.mem_append_left _ hd)).size
    have := (List.pairwise_append.mp words).2.2 d hd e List.mem_cons_self
    omega
  constructor
  · intro found
    obtain ⟨holds, before, after, parts, none⟩ := List.find?_eq_some_iff_append.mp found
    refine ⟨⟨List.mem_of_find?_eq_some found, holds⟩, fun d ⟨hd, also⟩ => ?_⟩
    rw [parts] at hd
    rcases List.mem_append.mp hd with early | late
    · have absent := none d early
      rw [also] at absent
      cases absent
    · rcases List.mem_cons.mp late with rfl | late
      · exact le_rfl
      · obtain ⟨front, back, rfl⟩ := List.append_of_mem late
        exact (below (before := before ++ e :: front) (by rw [parts, List.append_assoc]; rfl)
          (List.mem_append_right _ List.mem_cons_self)).le
  · rintro ⟨⟨mem, holds⟩, least⟩
    obtain ⟨before, after, parts⟩ := List.append_of_mem mem
    refine List.find?_eq_some_iff_append.mpr ⟨holds, before, after, parts, fun d hd => ?_⟩
    rw [Bool.not_eq_true', ← Bool.not_eq_true]
    intro also
    have lower := below parts hd
    have := least d ⟨by rw [parts]; exact List.mem_append_left _ hd, also⟩
    omega

theorem Entry.isHole_iff {e : Entry} {kind : EntryKind} {code : Nat} :
    e.isHole kind code = true ↔ e.kind = kind ∧ e.classCode = code := by
  simp [Entry.isHole]

theorem findHole_eq_some_iff {placement : List Entry} {code : Nat} {e : Entry} :
    findHole placement code = some e ↔
      placement.find? (fun e => e.isHole .heldAnchor code) = some e ∨
      (placement.find? (fun e => e.isHole .vacancy code) = some e ∧
        placement.find? (fun e => e.isHole .heldAnchor code) = none) ∨
      (placement.find? (fun e => e.isHole .reserve code) = some e ∧
        placement.find? (fun e => e.isHole .heldAnchor code) = none ∧
        placement.find? (fun e => e.isHole .vacancy code) = none) := by
  unfold findHole
  cases placement.find? (fun e => e.isHole .heldAnchor code) <;>
    cases placement.find? (fun e => e.isHole .vacancy code) <;> simp

/-- Settles O29: each of the three searches finds the lowest hole of its kind. -/
theorem holesOfAClass : Obligations.HolesOfAClass := by
  unfold Obligations.HolesOfAClass
  refine ⟨fun placement code layout => ?_, fun s k st out => s.leave_eq_departed k out⟩
  intro holes e
  have searched (kind : EntryKind) (e : Entry) :
      placement.find? (fun e => e.isHole kind code) = some e ↔ holes kind e ∧ ∀ d, holes kind d → e.base ≤ d.base := by
    simp only [layout.find?_eq_some_iff, Entry.isHole_iff, holes]
  have absent (kind : EntryKind) : placement.find? (fun e => e.isHole kind code) = none ↔ ∀ d, ¬holes kind d := by
    simp only [List.find?_eq_none, Entry.isHole_iff, holes, not_and]
  rw [findHole_eq_some_iff, searched, searched, searched, absent, absent]
  tauto

/-! ## Translation (R39, R53, R54) -/

theorem entryAt_eq_none {placement : List Entry} {address : Nat}
    (unmapped : ∀ e ∈ placement, ¬(e.base ≤ address ∧ address < e.base + e.size)) : entryAt placement address = none :=
  List.find?_eq_none.mpr fun e he => by simpa using unmapped e he

theorem LayoutConsistent.entryAt_eq_some {placement : List Entry} (h : LayoutConsistent placement) {address : Nat}
    {e : Entry} (mem : e ∈ placement) (low : e.base ≤ address) (high : address < e.base + e.size) :
    entryAt placement address = some e := by
  obtain ⟨before, after, parts⟩ := List.append_of_mem mem
  refine List.find?_eq_some_iff_append.mpr ⟨by simp [low, high], before, after, parts, fun d hd => ?_⟩
  have words := h.words
  rw [parts] at words
  have := (List.pairwise_append.mp words).2.2 d hd e List.mem_cons_self
  simp only [Bool.not_eq_true', Bool.and_eq_false_iff, decide_eq_false_iff_not]
  omega

/-- Settles O30: the checks one after another, on the one entry that holds the address. -/
theorem translationTable : Obligations.TranslationTable := by
  unfold Obligations.TranslationTable
  intro s view address count kind layout
  refine ⟨fun stale => if_pos stale, fun current => ⟨fun unmapped => ?_, fun e mem low high => ?_⟩⟩
  · rw [State.translate, if_neg (not_not.mpr current), entryAt_eq_none unmapped]
  · rw [State.translate, if_neg (not_not.mpr current), layout.entryAt_eq_some mem low high]
    refine ⟨fun beyond => if_pos beyond, fun within => (if_neg (Nat.not_lt.mpr within)).trans ?_⟩
    cases e.kind with
    | fence => cases kind <;> rfl
    | window k =>
      dsimp only
      cases state : (s.slot k).state with
      | draining halt => rw [if_pos ⟨halt, rfl⟩]
      | _ => exact (if_neg (by rintro ⟨halt, other⟩; cases other)).symm
    | _ => rfl

end Sys2Proof.Machine
end

section
/-! SUPPORT. The Class Catalogue (R4 to R9): the statements about Define Class and Drop Class. -/

namespace Sys2Proof.Machine

-- One proof at a time: many side by side take a thread and its stack each.
set_option Elab.async false

/-! ## The class code of a Drop Class (R168) -/

section
variable {q : Request} (fields : List Byte)

/-- The answer to a body of the wrong length aside, a reader of one byte gives what it is told to. -/
theorem oneByte_ne {g : Nat → Request} (other : ∀ n, g n ≠ q) (formed : .badFormat ≠ q) : oneByte fields g ≠ q := by
  unfold oneByte
  split
  · exact other _
  · exact formed

theorem oneHalf_ne {g : Nat → Request} (other : ∀ n, g n ≠ q) (formed : .badFormat ≠ q) : oneHalf fields g ≠ q := by
  unfold oneHalf
  split
  · exact other _
  · exact formed

end

/-- Only a body with the code of Drop Class is read as one. -/
theorem decodeRequest_ne_dropClass {r : HostRequest} (code : r.code ≠ 0x09) (n : Nat) : decodeRequest r ≠ .dropClass n := by
  have byte {g : Nat → Request} (other : ∀ m, g m ≠ .dropClass n) := oneByte_ne r.fields other nofun
  have half {g : Nat → Request} (other : ∀ m, g m ≠ .dropClass n) := oneHalf_ne r.fields other nofun
  have params : decodeSetParameters r.fields ≠ .dropClass n := by unfold decodeSetParameters; split <;> nofun
  have define : decodeDefineClass r.fields ≠ .dropClass n := by unfold decodeDefineClass; split <;> nofun
  have read : decodeAccessRead r.fields ≠ .dropClass n := by unfold decodeAccessRead; split <;> nofun
  have write : decodeAccessWrite r.fields ≠ .dropClass n := by
    unfold decodeAccessWrite
    split
    · split
      · exact ite_ne nofun nofun
      · nofun
    · nofun
  have enable : decodeSetEventEnable r.fields ≠ .dropClass n := by unfold decodeSetEventEnable; split <;> nofun
  have counters : decodeReadCounters r.fields ≠ .dropClass n := by unfold decodeReadCounters; split <;> nofun
  unfold decodeRequest
  rw [if_neg code]
  exact ite_ne (byte nofun) <| ite_ne params <| ite_ne (byte nofun) <| ite_ne (byte nofun) <| ite_ne define <|
    ite_ne (byte nofun) <| ite_ne (byte nofun) <| ite_ne (byte nofun) <| ite_ne (half nofun) <| ite_ne (byte nofun) <|
    ite_ne (byte nofun) <| ite_ne (byte nofun) <| ite_ne read <| ite_ne write <| ite_ne (byte nofun) <|
    ite_ne (half nofun) <| ite_ne (half nofun) <| ite_ne enable <| ite_ne counters nofun

/-- The class code of a Drop Class is a 16-bit number. -/
theorem lt_of_decodeRequest_dropClass {r : HostRequest} {n : Nat} (h : decodeRequest r = .dropClass n) : n < 65536 := by
  have code : r.code = 0x09 := by
    by_contra other
    exact decodeRequest_ne_dropClass other n h
  have h : oneHalf r.fields .dropClass = .dropClass n := by simpa [decodeRequest, code] using h
  unfold oneHalf at h
  split at h
  · injection h with h
    subst h
    exact num16_lt _ _
  · cases h

/-! ## Drop Class and redefinition (R6, R8, R9) -/

theorem exec_dropClass_of_offers {s : State} {r : HostRequest} {code : Nat} (offer : s.Offers r)
    (request : decodeRequest r = .dropClass code) :
    exec .dropClass s = .next (s.dropHead.serveDrop r code).transmit := offer.exec_command request

/-- Settles O22: the three checks are the branches of the answer. -/
theorem dropClassEffects : Obligations.DropClassEffects := by
  unfold Obligations.DropClassEffects
  intro s r code offer request
  have bound := lt_of_decodeRequest_dropClass request
  have bad_iff : (code = 0 ∨ 0xFFFF ≤ code) ↔ (code = 0 ∨ code = 0xFFFF) := by omega
  have carried_iff : s.dropHead.classInUse code = true ↔ s.Carried code := s.dropHead.classInUse_iff code
  have known_iff := s.dropHead.pe.lookup_isNone_iff code
  rw [exec_dropClass_of_offers offer request]
  refine ⟨fun bad => ?_, fun good unknown => ?_, fun good known used => ?_, fun good known unused => ?_⟩
  · rw [State.serveDrop, if_pos (bad_iff.mpr bad)]
    rfl
  · rw [State.serveDrop, if_neg (mt bad_iff.mp good), if_pos (known_iff.mpr unknown)]
    rfl
  · rw [State.serveDrop, if_neg (mt bad_iff.mp good), if_neg (fun none => known_iff.mp none known),
      if_pos (carried_iff.mpr used)]
    rfl
  · rw [State.serveDrop, if_neg (mt bad_iff.mp good), if_neg (fun none => known_iff.mp none known),
      if_neg (mt carried_iff.mp unused)]
    rfl

theorem ClassFields.entry_valid {r : HostRequest} {f : ClassFields} (request : decodeRequest r = .defineClass f)
    (good : ¬f.BadParam) : f.entry.Valid :=
  (ClassFields.check_eq_some (ClassFields.check_of_not_badParam (code_lt_of_decodeRequest request) good)).2

/-- Settles O21: `State.redefineClass` is what an accepted redefinition does. -/
theorem defineClassRedefines : Obligations.DefineClassRedefines := by
  unfold Obligations.DefineClassRedefines
  intro s r f offer request good ranks known clear unused consistent
  have passed : s.refuseDefine f.entry = none :=
    State.refuseDefine_eq_none.mpr ⟨ranks, .inl known, clear, fun used => unused used.2⟩
  have served := State.serveDefine_redefined (s := s.dropHead) (c := f.entry) r passed known
  refine ⟨_, (exec_defineClass_of_not_badParam offer request good).trans
    (congrArg (fun u => Host.Outcome.next (State.transmit u)) served), rfl, insertByRank_perm f.entry _,
    consistent.define (ClassFields.entry_valid request good) passed⟩

/-! ## Re-judging (R7) -/

/-- A slot fails, its transactions aside: the lane is abandoned, the slot leaves the layout, SLOT_FAILED is posted (R77). -/
theorem State.fallen_eq (s : State) (k : SlotNo) (reason : FailReason) :
    ((s.modLane k Lane.abandon).leave k (.failed reason)).post (.slotFailed k reason) =
      { s.withSlot k { s.slot k with state := .failed reason, lane := (s.slot k).lane.abandoned } with
        pe := s.departed k
        au := s.au.post (.slotFailed k reason) } := by
  have departed : (s.withLane k (s.slot k).lane.abandoned).departed k = s.departed k :=
    State.departed_congr (by rw [State.slot_withLane]) rfl
  rw [State.modLane_eq, Lane.abandon_eq, State.leave_eq_departed _ k (st := .failed reason) rfl, departed,
    State.slot_withLane, State.withLane_withSlot]
  rfl

/-- A slot fails for a reason that ends no transaction (R77). -/
theorem State.enterFailed_eq (s : State) (k : SlotNo) {reason : FailReason} (other : reason ≠ .laneFault) :
    s.enterFailed k reason =
      { s.withSlot k { s.slot k with state := .failed reason, lane := (s.slot k).lane.abandoned } with
        pe := s.departed k
        au := s.au.post (.slotFailed k reason) } := by
  rw [← State.fallen_eq, State.enterFailed, if_neg other]

section
variable {u : State} {k : SlotNo} {id : Identity} {c : ClassEntry} (identity : (u.slot k).identity = some id)
  (known : u.pe.lookup id.classCode = some c)
include identity known

/-- The class admits the module's events, and the slot joins (R64). -/
theorem State.rejudge_of_fits (fits : id.eventCount ≤ c.span) : u.rejudge k = u.join k := by
  simp only [State.rejudge, identity, State.judge, known, if_neg (Nat.not_lt.mpr fits)]

/-- The class does not allow the module's events (R64, R77). -/
theorem State.rejudge_of_mismatch (unknown : (u.slot k).state = .unknownClass) (beyond : c.span < id.eventCount) :
    u.rejudge k =
      { u.withSlot k { u.slot k with state := .failed .spanMismatch, lane := (u.slot k).lane.abandoned } with
        au := u.au.post (.slotFailed k .spanMismatch) } := by
  have failed : u.rejudge k = u.enterFailed k .spanMismatch := by
    simp only [State.rejudge, identity, State.judge, known, if_pos beyond]
  rw [failed, State.enterFailed_eq u k (by decide), State.departed_of_absent (by rw [unknown]; rfl)]
  rfl

end

theorem State.join_dropHead (s : State) (k : SlotNo) : s.dropHead.join k = (s.join k).dropHead := by
  cases found : findHole s.pe.placement (s.slot k).classCode with
  | some hole =>
    rw [State.join_of_hole found, State.join_of_hole (s := s.dropHead) found]
    rfl
  | none =>
    by_cases commits : s.params.joinPolicy = .autoCommit ∧ (s.entered k).Undisturbed (s.entered k).draftInputs.draft ∧
      windowOf (s.entered k).draftInputs.draft k ≠ .none
    · obtain ⟨policy, undisturbed, fits⟩ := commits
      rw [State.join_of_commit found policy undisturbed fits,
        State.join_of_commit (s := s.dropHead) found policy undisturbed fits, State.commit_eq, State.commit_eq]
      rfl
    · have stays := not_and.mp commits
      rw [State.join_of_wait found stays, State.join_of_wait (s := s.dropHead) found stays]
      rfl

/-! ## A new class (R5, R7) -/

/-- The slot waits in UNKNOWN_CLASS for the class code (R7). -/
def State.waits (s : State) (code : Nat) (k : SlotNo) : Bool :=
  decide ((s.slot k).state = .unknownClass) && decide ((s.slot k).identity.map Identity.classCode = some code)

/-- The slot waits for the class of the fields, which admits its event count (R7, R64). -/
def State.admits (s : State) (f : ClassFields) (k : SlotNo) : Bool :=
  s.waits f.code k && decide (((s.slot k).identity.map Identity.eventCount).getD 0 ≤ f.span)

/-- What the re-judging of a slot that waits for the class of the fields makes of a state in which the slot is as it was
(R7). -/
def State.rejudged (s : State) (f : ClassFields) (u : State) (k : SlotNo) : State :=
  if s.admits f k then u.join k
  else
    { u.withSlot k { s.slot k with state := .failed .spanMismatch, lane := (s.slot k).lane.abandoned } with
      au := u.au.post (.slotFailed k .spanMismatch) }

theorem State.waits_iff {s : State} {code : Nat} {k : SlotNo} :
    s.waits code k = true ↔ (s.slot k).state = .unknownClass ∧ ∃ id, (s.slot k).identity = some id ∧ id.classCode = code := by
  simp [State.waits]

section
variable {s : State} {f : ClassFields} {u : State} {k : SlotNo} (waits : s.waits f.code k = true)
  (same : u.slot k = s.slot k)
include waits same

theorem State.rejudge_eq_rejudged (known : u.pe.lookup f.code = some f.entry) : u.rejudge k = s.rejudged f u k := by
  obtain ⟨unknown, id, identity, code⟩ := State.waits_iff.mp waits
  rw [← same] at unknown identity
  rw [← code] at known
  have admits : s.admits f k = decide (id.eventCount ≤ f.span) := by
    rw [State.admits, waits, ← same, identity]
    rfl
  unfold State.rejudged
  by_cases fits : id.eventCount ≤ f.span
  · rw [State.rejudge_of_fits identity known fits, admits, decide_eq_true fits, if_pos rfl]
  · rw [State.rejudge_of_mismatch identity known unknown (Nat.lt_of_not_le fits), admits, decide_eq_false fits,
      if_neg Bool.false_ne_true, same]

theorem State.rejudge_dropHead (known : u.pe.lookup f.code = some f.entry) :
    u.dropHead.rejudge k = (s.rejudged f u k).dropHead := by
  rw [State.rejudge_eq_rejudged (u := u.dropHead) waits same known]
  unfold State.rejudged
  split
  · exact u.join_dropHead k
  · rfl

end

theorem State.rejudge_catalogue (s : State) (k : SlotNo) : (s.rejudge k).pe.catalogue = s.pe.catalogue :=
  (s.rejudge_works k).link.catalogue

/-- The slots that wait are re-judged one after another, each as it was (R7). -/
theorem State.foldl_rejudge_dropHead {s : State} {f : ClassFields} {slots : List SlotNo} (nodup : slots.Nodup) {u : State}
    (waits : ∀ k ∈ slots, s.waits f.code k = true) (same : ∀ k ∈ slots, u.slot k = s.slot k)
    (known : u.pe.lookup f.code = some f.entry) :
    slots.foldl State.rejudge u.dropHead = (slots.foldl (s.rejudged f) u).dropHead := by
  induction slots generalizing u with
  | nil => rfl
  | cons k slots ih =>
    obtain ⟨fresh, nodup⟩ := List.nodup_cons.mp nodup
    have mine := same k List.mem_cons_self
    have eq := State.rejudge_eq_rejudged (waits k List.mem_cons_self) mine known
    rw [List.foldl_cons, List.foldl_cons, State.rejudge_dropHead (waits k List.mem_cons_self) mine known]
    refine ih nodup (fun j hj => waits j (List.mem_cons_of_mem _ hj)) (fun j hj => ?_) ?_
    · have others := same j (List.mem_cons_of_mem _ hj)
      have unknown := (State.waits_iff.mp (waits j (List.mem_cons_of_mem _ hj))).1
      rw [← eq, State.slot_rejudge_ne (by rintro rfl; exact fresh hj) (by rw [others, unknown]; rfl), others]
    · rw [← eq, PlacementEngine.lookup_congr (u.rejudge_catalogue k)]
      exact known

/-- The catalogue with the new class, counted by the draft stamp (R5). -/
def State.withClass (s : State) (c : ClassEntry) : State :=
  { s with pe := { s.pe with catalogue := insertByRank c s.pe.catalogue, stamp := nextStamp s.pe.stamp } }

theorem State.addClass_dropHead {s : State} {f : ClassFields}
    (consistent : CatalogueConsistent (insertByRank f.entry s.pe.catalogue)) :
    s.dropHead.addClass f.entry =
      (((List.finRange 16).filter (s.waits f.code)).foldl (s.rejudged f) (s.withClass f.entry)).dropHead := by
  refine State.foldl_rejudge_dropHead (u := s.withClass f.entry) ((List.nodup_finRange 16).filter _)
    (fun k hk => (List.mem_filter.mp hk).2) (fun _ _ => rfl) ?_
  exact (PlacementEngine.lookup_eq_some_iff (pe := (s.withClass f.entry).pe) consistent).mpr
    ⟨(insertByRank_perm _ _).symm.subset List.mem_cons_self, rfl⟩

/-! ## A new class under FILL_ONLY without entries of it (R7, R44) -/

/-- What becomes of a slot that waits for the class (R7). -/
def State.settled (s : State) (f : ClassFields) (k : SlotNo) : Slot :=
  { s.slot k with
    state := if s.admits f k then .pending .awaitingCommit else .failed .spanMismatch
    lane := if s.admits f k then (s.slot k).lane else (s.slot k).lane.abandoned }

/-- The notices of its re-judging (R7, R44, R77). -/
def State.settledNotices (s : State) (f : ClassFields) (k : SlotNo) : List NoticeKind :=
  if s.admits f k then [.moduleJoined k f.code (s.slot k).joinCount .pending, .placementPending k .awaitingCommit]
  else [.slotFailed k .spanMismatch]

section
variable {s : State} {f : ClassFields}

theorem State.rejudged_waiting {u : State} {k : SlotNo} (waits : s.waits f.code k = true) (same : u.slot k = s.slot k)
    (policy : u.params.joinPolicy = .fillOnly) (free : ∀ e ∈ u.pe.placement, e.classCode ≠ f.code) :
    s.rejudged f u k =
      { u.withSlot k (s.settled f k) with
        pe := { u.pe with stamp := if s.admits f k then nextStamp u.pe.stamp else u.pe.stamp }
        au := (s.settledNotices f k).foldl AttentionUnit.post u.au } := by
  unfold State.rejudged State.settled State.settledNotices
  cases s.admits f k
  · rfl
  · have code : (u.slot k).classCode = f.code := by
      obtain ⟨_, id, identity, code⟩ := State.waits_iff.mp waits
      rw [Slot.classCode, same, identity]
      exact code
    have none : findHole u.pe.placement (u.slot k).classCode = none := by
      rw [Option.eq_none_iff_forall_ne_some]
      intro hole found
      obtain ⟨mem, own, _⟩ := findHole_eq_some found
      exact free hole mem (own.trans code)
    rw [if_pos rfl, State.join_of_wait none (by rw [policy]; nofun), State.entered_awaitCommit, State.entered_eq, code, same]
    rfl

theorem State.foldl_rejudged_waiting {slots : List SlotNo} (nodup : slots.Nodup) {u : State}
    (waits : ∀ k ∈ slots, s.waits f.code k = true) (same : ∀ k ∈ slots, u.slot k = s.slot k)
    (policy : u.params.joinPolicy = .fillOnly) (free : ∀ e ∈ u.pe.placement, e.classCode ≠ f.code) :
    slots.foldl (s.rejudged f) u =
      { u with
        pe := { u.pe with stamp := (slots.filter (s.admits f)).foldl (fun n _ => nextStamp n) u.pe.stamp }
        slots := Vector.ofFn fun k : Fin 16 => if k ∈ slots then s.settled f k else u.slot k
        au := (slots.flatMap (s.settledNotices f)).foldl AttentionUnit.post u.au } := by
  induction slots generalizing u with
  | nil =>
    have slots : (Vector.ofFn fun k : Fin 16 => u.slot k) = u.slots := Vector.ext fun i hi => Vector.getElem_ofFn _
    simp [slots]
  | cons k slots ih =>
    obtain ⟨fresh, nodup⟩ := List.nodup_cons.mp nodup
    have mine := same k List.mem_cons_self
    have step := State.rejudged_waiting (waits k List.mem_cons_self) mine policy free
    have slot (j : SlotNo) : (s.rejudged f u k).slot j = if j = k then s.settled f k else u.slot j := by
      rw [step]
      exact u.slot_modSlot k j fun _ => s.settled f k
    rw [List.foldl_cons, ih nodup (fun j hj => waits j (List.mem_cons_of_mem _ hj)) (fun j hj => ?others) ?policy ?free]
    · have slots : (Vector.ofFn fun j : Fin 16 => if j ∈ slots then s.settled f j else (s.rejudged f u k).slot j) =
          Vector.ofFn fun j : Fin 16 => if j ∈ k :: slots then s.settled f j else u.slot j := by
        congr 1
        funext j
        rw [slot]
        by_cases first : j = k <;> by_cases later : j ∈ slots <;> simp [first, later]
      rw [slots, step, List.flatMap_cons, List.foldl_append]
      cases admits : s.admits f k <;> simp [admits, State.withSlot]
    case others => rw [slot, if_neg (by rintro rfl; exact fresh hj), same j (List.mem_cons_of_mem _ hj)]
    case policy =>
      rw [step]
      exact policy
    case free =>
      rw [step]
      exact free

end

/-- Settles O20: the re-judging of the slots that wait, one after another, and its closed form under FILL_ONLY. -/
theorem defineClassAdds : Obligations.DefineClassAdds := by
  unfold Obligations.DefineClassAdds
  intro s r f offer request consistent good new room clear
  have unknown : ¬∃ d ∈ s.pe.catalogue, d.code = f.code := fun ⟨d, hd, code⟩ => (new d hd).1 code
  have passed : s.refuseDefine f.entry = none :=
    State.refuseDefine_eq_none.mpr ⟨fun d hd rank => absurd rank (new d hd).2, .inr room, clear, fun used => unknown used.1⟩
  have defined := consistent.define (ClassFields.entry_valid request good) passed
  rw [withoutClass_of_new fun d hd => (new d hd).1] at defined
  let waiting := (List.finRange 16).filter (s.waits f.code)
  have served : exec .defineClass s =
      .next (State.transmit ((waiting.foldl (s.rejudged f) (s.withClass f.entry)).replied r .ok
        (.defined .created waiting.length (waiting.foldl (s.rejudged f) (s.withClass f.entry)).pe.stamp))) := by
    rw [exec_defineClass_of_not_badParam offer request good,
      State.serveDefine_created (s := s.dropHead) (c := f.entry) r passed unknown, State.addClass_dropHead defined]
    rfl
  refine ⟨insertByRank f.entry s.pe.catalogue, insertByRank_perm _ _, defined, served, fun policy free => served.trans ?_⟩
  have closed := State.foldl_rejudged_waiting (s := s) (f := f) (u := s.withClass f.entry)
    ((List.nodup_finRange 16).filter (s.waits f.code)) (fun k hk => (List.mem_filter.mp hk).2) (fun _ _ => rfl) policy free
  have admitted : waiting.filter (s.admits f) = (List.finRange 16).filter (s.admits f) := by
    rw [List.filter_filter]
    refine List.filter_congr fun k _ => ?_
    cases admits : s.admits f k
    · rfl
    · exact (Bool.and_eq_true_iff.mp admits).1
  have slots : (Vector.ofFn fun k : Fin 16 => if k ∈ waiting then s.settled f k else (s.withClass f.entry).slot k) =
      Vector.ofFn fun k : Fin 16 => if s.waits f.code k then s.settled f k else s.slot k := by
    congr 1
    funext k
    exact if_congr (by simp [waiting]) rfl rfl
  rw [slots, admitted] at closed
  rw [closed]
  rfl

end Sys2Proof.Machine
end

section
/-! SUPPORT. The lane engine and its transmitter (R73, R83, R86, R87, R90): the statements about what a lane does next. -/

namespace Sys2Proof.Machine

-- One proof at a time: many side by side take a thread and its stack each.
set_option Elab.async false

/-! ## The next exchange (R87) -/

section
variable {s : State} {k : SlotNo}

theorem State.advance_of_busy (busy : (s.slot k).lane.exchange ≠ none) : s.advance k = s.laneTransmit k := by
  rw [State.advance, if_pos (Option.isSome_iff_ne_none.mpr busy)]

theorem State.advance_of_next {kind : ExchangeKind} (idle : (s.slot k).lane.exchange = none)
    (next : s.nextExchange k = some kind) :
    s.advance k = ((s.withLane k ((s.slot k).lane.start kind)).exchangeBegun k kind).laneTransmit k := by
  rw [State.advance, idle, if_neg (by decide), next]
  rfl

theorem State.advance_of_none (idle : (s.slot k).lane.exchange = none) (none : s.nextExchange k = none) :
    s.advance k = s.laneTransmit k := by
  rw [State.advance, idle, if_neg (by decide), none]

theorem State.nextExchange_of_probing (probing : (s.slot k).state = .probing) :
    s.nextExchange k = some (.probe .first) := if_pos probing

theorem State.nextExchange_of_resync (other : (s.slot k).state ≠ .probing)
    (resync : (s.slot k).lane.resyncRequired = true) : s.nextExchange k = some (.probe .resync) :=
  (if_neg other).trans (if_pos resync)

/-- The oldest WAITING transaction of a participating slot, if any (R113). -/
def State.candidate (s : State) (k : SlotNo) : Option Transaction :=
  if (s.slot k).state.participates then s.oldestWaiting k else none

section
variable (other : (s.slot k).state ≠ .probing) (settled : (s.slot k).lane.resyncRequired = false)
include other settled

theorem State.nextExchange_of_candidate {t : Transaction} (waits : s.candidate k = some t) :
    s.nextExchange k = some t.exchangeKind := by
  unfold State.candidate at waits
  rw [State.nextExchange, if_neg other, if_neg (by rw [settled]; exact Bool.false_ne_true), waits]

theorem State.nextExchange_of_empty (none : s.candidate k = none) :
    s.nextExchange k = if (s.slot k).state = .draining false ∧ (s.laneQueue k).isEmpty then some .halt else .none := by
  unfold State.candidate at none
  rw [State.nextExchange, if_neg other, if_neg (by rw [settled]; exact Bool.false_ne_true), none]

end

end

theorem State.candidate_eq_some {s : State} {k : SlotNo} {older newer : List Transaction} {t : Transaction}
    (part : (s.slot k).state.participates = true) (queue : s.laneQueue k = older ++ t :: newer)
    (started : ∀ u ∈ older, u.state ≠ .waiting) (waits : t.state = .waiting) : s.candidate k = some t := by
  rw [State.candidate, if_pos part, State.oldestWaiting]
  exact List.find?_eq_some_iff_append.mpr
    ⟨by simpa using waits, older, newer, queue, fun u hu => by simpa using started u hu⟩

theorem State.candidate_eq_none {s : State} {k : SlotNo}
    (started : (s.slot k).state.participates = true → ∀ u ∈ s.laneQueue k, u.state ≠ .waiting) : s.candidate k = none := by
  unfold State.candidate
  split
  next part => exact List.find?_eq_none.mpr fun u hu => by simpa using started part u hu
  next => rfl

/-- The first HALT of a release begins (R73). -/
theorem State.advance_of_halt {s : State} {k : SlotNo} (idle : (s.slot k).lane.exchange = none)
    (settled : (s.slot k).lane.resyncRequired = false) (draining : (s.slot k).state = .draining false)
    (empty : s.laneQueue k = []) :
    s.advance k =
      (s.withSlot k { s.slot k with state := .draining true, lane := (s.slot k).lane.start .halt }).laneTransmit k := by
  have none : s.candidate k = none := State.candidate_eq_none fun _ u hu => by
    rw [empty] at hu
    cases hu
  have next := State.nextExchange_of_empty (by rw [draining]; nofun) settled none
  rw [if_pos ⟨draining, by rw [empty]; rfl⟩] at next
  rw [State.advance_of_next idle next, State.exchangeBegun, State.modSlot_eq, State.slot_withLane,
    Slot.enter_of_participates _ (st := .draining true) rfl, State.withLane_withSlot]

/-- The oldest WAITING transaction begins its exchange (R113). -/
theorem State.advance_of_candidate {s : State} {k : SlotNo} {t : Transaction} (idle : (s.slot k).lane.exchange = none)
    (other : (s.slot k).state ≠ .probing) (settled : (s.slot k).lane.resyncRequired = false)
    (waits : s.candidate k = some t) :
    s.advance k =
      State.laneTransmit
        { s.withLane k ((s.slot k).lane.start t.exchangeKind) with
          transactions := s.transactions.map fun u => if u.tag = t.tag then { u with state := .inExchange } else u } k := by
  rw [State.advance_of_next idle (State.nextExchange_of_candidate other settled waits), State.exchangeBegun_access,
    State.setTransactionState]
  simp only [beq_iff_eq]
  rfl

/-- Settles O35: a lane with an exchange, and the rows of R87 in their order for one without. -/
theorem nextExchangeBegins : Obligations.NextExchangeBegins := by
  unfold Obligations.NextExchangeBegins
  intro s k
  refine ⟨fun kind => rfl, State.advance_of_busy, fun idle probing => ?_, fun idle other resync => ?_,
    fun idle other settled => ⟨fun older t newer part queue started waits => ?_, fun draining empty => ?_,
      fun started inactive => ?_⟩⟩
  · exact State.advance_of_next idle (State.nextExchange_of_probing probing)
  · rw [State.advance_of_next idle (State.nextExchange_of_resync other resync), State.exchangeBegun, State.countLane_eq,
      State.slot_withLane, State.withLane_withLane]
    rfl
  · rw [State.advance_of_candidate idle other settled (State.candidate_eq_some part queue started waits)]
    cases kind : t.kind <;> simp only [Transaction.exchangeKind, kind] <;> rfl
  · exact State.advance_of_halt idle settled draining empty
  · refine State.advance_of_none idle ((State.nextExchange_of_empty other settled
      (State.candidate_eq_none started)).trans (if_neg fun both => inactive ⟨both.1, ?_⟩))
    exact List.isEmpty_iff.mp both.2

/-! ## The lane transmitter (R83, R86, R172) -/

section
variable {s : State} {k : SlotNo}

theorem State.laneTransmit_of_busy (busy : (s.slot k).lane.sending ≠ none) : s.laneTransmit k = s := by
  obtain ⟨f, sending⟩ := Option.ne_none_iff_exists'.mp busy
  simp only [State.laneTransmit, sending]

section
variable (free : (s.slot k).lane.sending = none)
include free

theorem State.laneTransmit_of_answer {a : EventAnswer} (answer : (s.slot k).lane.eventAnswer = some a) :
    s.laneTransmit k =
      s.withLane k { (s.slot k).lane with sending := some ⟨.eventAnswer, s.params.replyTime, a.frame.toBytes⟩ } := by
  have taken : s.laneTransmit k = s.modLane k fun l =>
      { l with sending := some ⟨.eventAnswer, s.params.replyTime, a.frame.toBytes⟩ } := by
    simp only [State.laneTransmit, free, answer]
  exact taken

variable (quiet : (s.slot k).lane.eventAnswer = none)
include quiet

theorem State.laneTransmit_of_idle (idle : (s.slot k).lane.exchange = none) : s.laneTransmit k = s := by
  simp only [State.laneTransmit, free, quiet, idle]

variable {x : Exchange} (exchange : (s.slot k).lane.exchange = some x)
include exchange

theorem State.laneTransmit_of_sent (sent : x.frameWaiting = false) : s.laneTransmit k = s := by
  simp only [State.laneTransmit, free, quiet, exchange, sent, Bool.false_eq_true, if_false]

theorem State.laneTransmit_of_waiting (waits : x.frameWaiting = true) :
    s.laneTransmit k =
      s.withLane k { (s.slot k).lane with
        sending := some ⟨.exchange, s.params.replyTime, (s.exchangeFrame x).toBytes⟩
        exchange := some { x with frameWaiting := false } } := by
  have taken : s.laneTransmit k = s.modLane k fun l =>
      { l with
        sending := some ⟨.exchange, s.params.replyTime, (s.exchangeFrame x).toBytes⟩
        exchange := some { x with frameWaiting := false } } := by
    simp only [State.laneTransmit, free, quiet, exchange, waits, if_true]
  exact taken

end

end

section
variable (s : State) {x : Exchange}

theorem State.exchangeFrame_of_probe {p : ProbePurpose} (kind : x.kind = .probe p) :
    s.exchangeFrame x = ⟨.probe, x.phase, 0, 0, []⟩ := by
  simp only [State.exchangeFrame, kind]

theorem State.exchangeFrame_of_halt (kind : x.kind = .halt) : s.exchangeFrame x = ⟨.halt, x.phase, 0, 0, []⟩ := by
  simp only [State.exchangeFrame, kind]

theorem State.exchangeFrame_of_read {tag : Byte} {offset count : Nat} (kind : x.kind = .read tag offset count) :
    s.exchangeFrame x = ⟨.read, x.phase, offset, count, []⟩ := by
  simp only [State.exchangeFrame, kind]

end

theorem State.exchangeFrame_of_write {s : State} (distinct : s.TagsDistinct) {t : Transaction}
    (present : t ∈ s.transactions) {x : Exchange} {offset count : Nat} (kind : x.kind = .write t.tag offset count) :
    s.exchangeFrame x = ⟨.write, x.phase, offset, count, s.pool.read t.blocks count⟩ := by
  simp only [State.exchangeFrame, kind, State.transaction?_eq_some distinct present, Option.map_some, Option.getD_some]

/-- Settles O36: what each state of the transmitter takes; the frames and their bytes are as the model writes them. -/
theorem laneTransmitterSends : Obligations.LaneTransmitterSends := by
  unfold Obligations.LaneTransmitterSends
  intro s k
  refine ⟨State.laneTransmit_of_busy, fun free => ⟨fun a answer => ?_, fun quiet =>
    ⟨State.laneTransmit_of_idle free quiet, fun x exchange => ⟨State.laneTransmit_of_sent free quiet exchange,
      fun waits => ?_⟩⟩⟩⟩
  · rw [State.laneTransmit_of_answer free answer]
    cases accepted : a.accepted <;> simp only [EventAnswer.frame, accepted] <;> rfl
  · have sends := State.laneTransmit_of_waiting free quiet exchange waits
    refine ⟨fun p kind => ?_, fun kind => ?_, fun tag offset count kind => ?_,
      fun tag offset count t kind distinct present holds => ?_⟩
    · rw [State.exchangeFrame_of_probe s kind] at sends
      exact sends
    · rw [State.exchangeFrame_of_halt s kind] at sends
      exact sends
    · rw [State.exchangeFrame_of_read s kind] at sends
      exact sends
    · subst holds
      rw [State.exchangeFrame_of_write distinct present kind] at sends
      exact sends

/-- Settles O37: the three sources of the frame that has been sent. -/
theorem laneFrameSentEffects : Obligations.LaneFrameSentEffects := by
  unfold Obligations.LaneFrameSentEffects
  intro s k f running sending
  have next := (State.Happens.laneFrameSent k f sending).exec_eq running
  rw [State.modLane_eq] at next
  refine ⟨fun source => ?_, fun source => ?_, fun source => ?_⟩
  · simp only [Lane.frameSent, source] at next
    exact next
  · simp only [Lane.frameSent, source] at next
    exact next
  · simp only [Lane.frameSent, source] at next
    exact next

/-! ## The expiry of a Reply Time (R90, R94) -/

theorem State.replyExpired_of_cancelled (s : State) (k : SlotNo) {x : Exchange} (cancelled : x.cancelled = true) :
    s.replyExpired k x = s.expireCancelled k x := if_pos cancelled

section
variable {s : State} (k : SlotNo) {x : Exchange} (live : x.cancelled = false)
include live

theorem State.replyExpired_of_retry (more : x.sends < 1 + s.params.retryLimit) :
    s.replyExpired k x =
      s.withLane k { (s.slot k).lane with
        exchange := some { x with sends := x.sends + 1, frameWaiting := true, timer := none }
        counters := { (s.slot k).lane.counters with retries := bump (s.slot k).lane.counters.retries } } :=
  (if_neg (by rw [live]; exact Bool.false_ne_true)).trans (if_pos more)

theorem State.replyExpired_of_last (last : 1 + s.params.retryLimit ≤ x.sends) :
    s.replyExpired k x =
      (s.countLane k fun c => { c with expiredExchanges := bump c.expiredExchanges }).failExchange k x .laneTimeout :=
  (if_neg (by rw [live]; exact Bool.false_ne_true)).trans (if_neg (Nat.not_lt.mpr last))

end

/-- Settles O38: the three outcomes of an expiry. -/
theorem replyTimeExpiryEffects : Obligations.ReplyTimeExpiryEffects := by
  unfold Obligations.ReplyTimeExpiryEffects
  intro s k x running exchange timer
  have next := (State.Happens.replyTimeExpiry k x exchange (Option.isSome_iff_ne_none.mpr timer)).exec_eq running
  refine ⟨fun live more => ?_, fun live last => ?_, fun cancelled => ?_⟩
  · rw [State.replyExpired_of_retry k live more, State.advance_of_busy (by rw [State.slot_withLane]; nofun)] at next
    exact next
  · rw [State.replyExpired_of_last k live last] at next
    exact next
  · rw [State.replyExpired_of_cancelled s k cancelled] at next
    exact next

end Sys2Proof.Machine
end

section
/-! SUPPORT. The slots (R61 to R77, R117): the statements about presence, probing, release and reset of a slot. -/

namespace Sys2Proof.Machine

-- One proof at a time: many side by side take a thread and its stack each.
set_option Elab.async false

/-! ## Transactions that have ended, beside the slots -/

@[simp] theorem State.slot_ended (s : State) (ts : List Transaction) (f : Transaction → Reply) (k : SlotNo) :
    (s.ended ts f).slot k = s.slot k := rfl

theorem State.ended_withSlot (s : State) (k : SlotNo) (sl : Slot) (ts : List Transaction) (f : Transaction → Reply) :
    (s.withSlot k sl).ended ts f = (s.ended ts f).withSlot k sl := rfl

theorem State.ended_withLane (s : State) (k : SlotNo) (l : Lane) (ts : List Transaction) (f : Transaction → Reply) :
    (s.withLane k l).ended ts f = (s.ended ts f).withLane k l := rfl

/-- A change of a slot that has left its place in the layout. -/
theorem State.modSlot_placed (s : State) (k : SlotNo) (sl : Slot) (pe : PlacementEngine) (au : AttentionUnit)
    (f : Slot → Slot) :
    State.modSlot { s.withSlot k sl with pe := pe, au := au } k f = { s.withSlot k (f sl) with pe := pe, au := au } := by
  simp [State.modSlot, State.withSlot]

theorem State.departed_ended (s : State) (ts : List Transaction) (f : Transaction → Reply) (k : SlotNo) :
    (s.ended ts f).departed k = s.departed k := State.departed_congr rfl rfl

theorem State.departed_withSlot (s : State) {k : SlotNo} {sl : Slot} (same : sl.state = (s.slot k).state) :
    (s.withSlot k sl).departed k = s.departed k := State.departed_congr (by rw [State.slot_withSlot, same]) rfl

theorem State.departed_withLane (s : State) (k : SlotNo) (l : Lane) : (s.withLane k l).departed k = s.departed k :=
  s.departed_withSlot rfl

theorem State.ended_distinct {s : State} (distinct : s.TagsDistinct) (ts : List Transaction) (f : Transaction → Reply) :
    (s.ended ts f).TagsDistinct := distinct.sublist (List.filter_sublist.map _)

/-! ## Probing (R61 to R63) -/

@[simp] theorem Lane.abandoned_exchange (l : Lane) : l.abandoned.exchange = none := by
  unfold Lane.abandoned
  cases h : l.exchange
  · exact h
  · rfl

theorem Lane.abandoned_of_idle {l : Lane} (idle : l.exchange = none) : l.abandoned = { l with resyncRequired := false } := by
  unfold Lane.abandoned
  rw [if_neg (by rw [idle]; exact Bool.false_ne_true)]

/-- Entry into PROBING begins a FIRST PROBE (R63). -/
theorem State.enterProbing_eq (s : State) (k : SlotNo) :
    s.enterProbing k =
      State.laneTransmit
        { s.withSlot k
            { s.slot k with
              state := .probing, settle := none, failures := 0
              lane := (s.slot k).lane.abandoned.start (.probe .first) } with
          pe := s.departed k } k := by
  have entered : ((s.modLane k Lane.abandon).leave k .probing).modSlot k (fun sl => { sl with settle := none, failures := 0 }) =
      { s.withSlot k
          { s.slot k with state := .probing, settle := none, failures := 0, lane := (s.slot k).lane.abandoned } with
        pe := s.departed k } := by
    rw [State.modLane_eq, Lane.abandon_eq, State.leave_eq_departed _ k (st := .probing) rfl, State.departed_withLane,
      State.slot_withLane, State.withLane_withSlot]
    exact s.modSlot_placed k _ _ _ _
  have slot (pe : PlacementEngine) (sl : Slot) : State.slot { s.withSlot k sl with pe := pe } k = sl := s.slot_withSlot k sl
  unfold State.enterProbing
  dsimp only
  rw [entered, State.advance_of_next (kind := .probe .first) (by rw [slot]; exact Lane.abandoned_exchange _)
    (State.nextExchange_of_probing (by rw [slot])), slot]
  exact congrArg (State.laneTransmit · k) (s.modSlot_placed k _ (s.departed k) s.au fun sl =>
    { sl with lane := (s.slot k).lane.abandoned.start (.probe .first) })

/-- Settles O31. -/
theorem settlingAndProbing : Obligations.SettlingAndProbing := by
  unfold Obligations.SettlingAndProbing
  intro s k running
  refine ⟨fun empty => ?_, fun settling => ?_⟩
  · rw [(State.Happens.presenceRise k empty).exec_eq running, State.modSlot_eq, Slot.beginSettling,
      Slot.enter_eq _ (st := .settling) rfl]
  · rw [(State.Happens.settlePeriodExpiry k settling).exec_eq running, State.enterProbing_eq,
      State.departed_of_absent (by rw [settling]; rfl)]
    rfl

/-! ## Presence loss (R68) -/

theorem State.losePresence_eq {s : State} (distinct : s.TagsDistinct) (k : SlotNo) :
    s.losePresence k =
      { (s.ended (s.transactions.filter fun t => t.slot = k) fun t => t.tenureReply .moduleGone).withSlot k
          { presence := false, state := .empty, settle := none, identity := none, joinCount := (s.slot k).joinCount,
            failures := 0, lane := (s.slot k).lane.cleared } with
        pe := s.departed k
        au := s.au.post (.moduleLeft k (s.slot k).classCode .presenceLost) } := by
  unfold State.losePresence
  rw [State.endTenure_eq distinct]
  generalize tenure : s.ended _ _ = u
  have departed : u.departed k = s.departed k := by rw [← tenure, State.departed_ended]
  have slot : u.slot k = s.slot k := by rw [← tenure, State.slot_ended]
  have au : u.au = s.au := by rw [← tenure]; rfl
  dsimp only
  rw [State.modLane_eq, Lane.quiesce_eq, State.leave_eq_departed _ k (st := .empty) rfl, State.departed_withLane, departed,
    State.slot_withLane, State.withLane_withSlot, slot]
  rw [← au]
  exact u.modSlot_placed k _ _ _ _

/-- Settles O32. -/
theorem presenceLossEndsTenure : Obligations.PresenceLossEndsTenure := by
  unfold Obligations.PresenceLossEndsTenure
  intro s k running occupied distinct
  rw [(State.Happens.presenceLoss k occupied).exec_eq running, State.losePresence_eq distinct]
  rfl

/-! ## Reset Slot (R70, R71) -/

/-- A reply does not matter to a lane transmitter. -/
theorem State.answer_laneTransmit (s : State) (k : SlotNo) (r : HostRequest) (status : Status) (fields : ReplyFields) :
    (s.laneTransmit k).answer r status fields = (s.answer r status fields).laneTransmit k := by
  unfold State.laneTransmit
  rw [State.slot_answer]
  dsimp only
  cases (s.slot k).lane.sending with
  | some f => rfl
  | none =>
    cases (s.slot k).lane.eventAnswer with
    | some a => rfl
    | none =>
      cases (s.slot k).lane.exchange with
      | none => rfl
      | some x => cases waits : x.frameWaiting <;> simp only [waits] <;> rfl

section
variable {s : State} {r : HostRequest} {slot : Nat} (offer : s.Offers r)
include offer

theorem exec_resetSlot_of_offers (request : decodeRequest r = .resetSlot slot) :
    exec .resetSlot s = .next (s.dropHead.serveResetSlot r slot).transmit := offer.exec_command request

theorem exec_releaseSlot_of_offers (request : decodeRequest r = .releaseSlot slot) :
    exec .releaseSlot s = .next (s.dropHead.serveReleaseSlot r slot).transmit := offer.exec_command request

end

/-- Settles O33. -/
theorem resetSlotProbes : Obligations.ResetSlotProbes := by
  unfold Obligations.ResetSlotProbes
  intro s r slot offer request
  rw [exec_resetSlot_of_offers offer request]
  refine ⟨fun beyond => ?_, fun k same => ⟨fun unjudged => ?_, fun occupied settled distinct => ?_⟩⟩
  · rw [State.serveResetSlot, slotNo?_ge beyond]
    rfl
  · subst same
    rw [State.serveResetSlot, slotNo?_val]
    dsimp only
    rw [if_pos (show (s.dropHead.slot k).state.unjudged = true from (SlotState.unjudged_iff _).mpr unjudged)]
    rfl
  · subst same
    have judged : ¬(s.dropHead.slot k).state.unjudged = true := fun unjudged =>
      ((SlotState.unjudged_iff _).mp unjudged).elim occupied settled
    have distinct : s.dropHead.TagsDistinct := distinct
    rw [State.serveResetSlot, slotNo?_val]
    dsimp only
    rw [if_neg judged, State.endTenure_eq distinct, State.enterProbing_eq, State.departed_ended, State.answer_laneTransmit]
    rfl

/-! ## Release Slot (R72, R73) -/

/-- Settles O34: a release enters DRAINING, and the lane goes on as `State.advance` says. -/
theorem releaseSlotDrains : Obligations.ReleaseSlotDrains := by
  unfold Obligations.ReleaseSlotDrains
  intro s r slot offer request
  rw [exec_releaseSlot_of_offers offer request]
  refine ⟨fun beyond => ?_, fun k same => ?_⟩
  · rw [State.serveReleaseSlot, slotNo?_ge beyond]
    rfl
  · subst same
    have other (state : (s.slot k).state ≠ .placed) : s.dropHead.serveReleaseSlot r k.val = s.replied r .slotState .none := by
      rw [State.serveReleaseSlot, slotNo?_val]
      exact if_neg state
    have placed (state : (s.slot k).state = .placed) :
        s.dropHead.serveReleaseSlot r k.val =
          ((s.replied r .ok .none).withSlot k { s.slot k with state := .draining false }).advance k := by
      rw [State.serveReleaseSlot, slotNo?_val, ← Slot.enter_of_participates (s.slot k) (st := .draining false) rfl]
      exact if_pos state
    refine ⟨fun state => by rw [other state], fun state idle settled empty => ?_, fun state busy => ?_, fun state => ?_⟩
    · rw [placed state, State.advance_of_halt (by rw [State.slot_withSlot]; exact idle)
        (by rw [State.slot_withSlot]; exact settled) (by rw [State.slot_withSlot])
        (List.filter_eq_nil_iff.mpr fun t ht => by simpa using empty t ht), State.slot_withSlot, State.withSlot_withSlot]
    · rw [placed state, State.advance_of_busy (by rw [State.slot_withSlot]; exact busy)]
    · rw [placed state]

end Sys2Proof.Machine
end

section
/-! SUPPORT. The ends of exchanges (R74 to R79, R92 to R96, R115 to R123): the statements about failures, answers and
identities. -/

namespace Sys2Proof.Machine

-- One proof at a time: many side by side take a thread and its stack each.
set_option Elab.async false

/-! ## One transaction ends (R107, R119) -/

section
variable {s : State} (distinct : s.TagsDistinct) {t : Transaction} (present : t ∈ s.transactions)
include distinct present

theorem State.endTransaction_eq (status : Status) (fields : ReplyFields) :
    s.endTransaction t .free status fields = s.ended [t] fun t => t.replyWith status fields :=
  State.EndsAll.eq_ended ⟨rfl, rfl, by simp [Transaction.replyWith], rfl, rfl, by simp, rfl, rfl, rfl⟩ distinct
    (by simpa using present)

/-- A transaction ends with data, stored in a pool: its blocks pass to the reply (R107, R115). -/
theorem State.endTransaction_reply (pool : Pool) (status : Status) (fields : ReplyFields) :
    State.endTransaction { s with pool := pool } t .reply status fields =
      { s with
        transactions := s.transactions.filter fun u => u != t
        pool := pool.setOwner t.blocks .reply
        hli := { s.hli with replies := s.hli.replies ++ [t.replyWith status fields] } } := by
  have entries : s.transactions.filter (fun u => !(u.tag == t.tag)) = s.transactions.filter fun u => u != t :=
    List.filter_congr fun u hu => by
      by_cases same : u = t
      · simp [same]
      · have other : u.tag ≠ t.tag := fun tags => same (State.eq_of_tag_eq distinct hu present tags)
        rw [bne, beq_false_of_ne same, beq_false_of_ne other]
  rw [← entries]
  rfl

end

/-! ## The failure of a slot (R77, R92, R96) -/

/-- The transactions of a slot's Lane Queue end with its tenure (R117). -/
def State.tenureEnded (s : State) (k : SlotNo) (status : Status) : State :=
  s.ended (s.transactions.filter fun t => t.slot = k) fun t => t.tenureReply status

/-- A slot fails for LANE_FAULT (R77, R117). -/
theorem State.enterFailed_laneFault {s : State} (distinct : s.TagsDistinct) (k : SlotNo) :
    s.enterFailed k .laneFault =
      { (s.tenureEnded k .laneFault).withSlot k
          { s.slot k with state := .failed .laneFault, lane := (s.slot k).lane.abandoned } with
        pe := s.departed k
        au := s.au.post (.slotFailed k .laneFault) } := by
  rw [State.enterFailed, if_pos rfl, State.endTenure_eq distinct]
  exact (State.fallen_eq _ k .laneFault).trans (by rw [State.departed_ended]; rfl)

/-- One more failure of a lane without an exchange (R92, R96). -/
theorem State.countFailure_eq {s : State} (distinct : s.TagsDistinct) {k : SlotNo}
    (idle : (s.slot k).lane.exchange = none) :
    s.countFailure k =
      if (s.slot k).failures + 1 < s.params.faultThreshold then
        s.withSlot k { s.slot k with
          failures := (s.slot k).failures + 1, lane := { (s.slot k).lane with resyncRequired := true } }
      else
        { (s.tenureEnded k .laneFault).withSlot k
            { s.slot k with
              failures := (s.slot k).failures + 1, state := .failed .laneFault
              lane := { (s.slot k).lane with resyncRequired := false } } with
          pe := s.departed k
          au := s.au.post (.slotFailed k .laneFault) } := by
  let counted := s.withSlot k { s.slot k with failures := (s.slot k).failures + 1 }
  have slot : counted.slot k = { s.slot k with failures := (s.slot k).failures + 1 } := s.slot_withSlot k _
  have threshold : counted.params.faultThreshold = s.params.faultThreshold := rfl
  have unfolded : s.countFailure k =
      if (counted.slot k).failures < counted.params.faultThreshold then
        counted.withLane k { (counted.slot k).lane with resyncRequired := true }
      else counted.enterFailed k .laneFault := rfl
  rw [unfolded, threshold, slot]
  refine if_congr Iff.rfl (s.withSlot_withLane k _ _) ?_
  have departed : counted.departed k = s.departed k := s.departed_withSlot rfl
  rw [State.enterFailed_laneFault (s := counted) distinct k, slot, Lane.abandoned_of_idle idle, departed]
  exact congrArg (fun u : State => { u with pe := s.departed k, au := s.au.post (.slotFailed k .laneFault) })
    ((s.tenureEnded k .laneFault).withSlot_withSlot k _ _)

/-- The end of a release (R74). -/
theorem State.endRelease_eq (s : State) (k : SlotNo) (outcome : ReleaseOutcome) :
    s.endRelease k outcome =
      { s.withSlot k { s.slot k with state := .released, lane := { (s.slot k).lane with resyncRequired := false } } with
        pe := s.departed k
        au := s.au.post (.releaseDone k outcome) } := by
  rw [State.endRelease, State.leave_eq_departed s k (st := .released) rfl]
  rfl

/-! ## The failure of an exchange (R92, R94) -/

section
variable {s : State} {k : SlotNo} {x : Exchange}

theorem State.failExchange_of_tag {tag : Byte} (kind : x.kind.tag? = some tag) (status : Status) :
    s.failExchange k x status =
      (s.withLane k ((s.slot k).lane.freed (!(s.slot k).lane.outboundPhase))).failAccess k tag status := by
  cases of_kind : x.kind with
  | read own offset count =>
    obtain rfl : own = tag := by rw [of_kind] at kind; exact Option.some.inj kind
    simp only [State.failExchange, of_kind]
    rfl
  | write own offset count =>
    obtain rfl : own = tag := by rw [of_kind] at kind; exact Option.some.inj kind
    simp only [State.failExchange, of_kind]
    rfl
  | _ => rw [of_kind] at kind; cases kind

theorem State.failExchange_of_first (kind : x.kind = .probe .first) (status : Status) :
    s.failExchange k x status =
      (s.withLane k ((s.slot k).lane.freed (!(s.slot k).lane.outboundPhase))).enterFailed k .noIdent := by
  simp only [State.failExchange, kind]
  rfl

theorem State.failExchange_of_resync (kind : x.kind = .probe .resync) (status : Status) :
    s.failExchange k x status =
      (s.withLane k ((s.slot k).lane.freed (!(s.slot k).lane.outboundPhase))).countFailure k := by
  simp only [State.failExchange, kind]
  rfl

theorem State.failExchange_of_halt (kind : x.kind = .halt) (status : Status) (going : x.releaseEnded = false) :
    s.failExchange k x status =
      (s.withLane k ((s.slot k).lane.freed (!(s.slot k).lane.outboundPhase))).endRelease k .unconfirmed := by
  simp only [State.failExchange, kind, going, Bool.false_eq_true, if_false]
  rfl

theorem State.failExchange_of_ended_halt (kind : x.kind = .halt) (status : Status) (ended : x.releaseEnded = true) :
    s.failExchange k x status =
      s.withLane k { (s.slot k).lane.freed (!(s.slot k).lane.outboundPhase) with resyncRequired := true } := by
  have failed : s.failExchange k x status =
      (s.withLane k ((s.slot k).lane.freed (!(s.slot k).lane.outboundPhase))).modLane k
        fun l => { l with resyncRequired := true } := by
    simp only [State.failExchange, kind, ended, if_true]
    rfl
  rw [failed, State.modLane_eq, State.slot_withLane, State.withLane_withLane]

end

/-- A failure counted on a lane that has just been freed, in the terms of the statement (R92, R96). -/
theorem State.countFailure_freed {u : State} (distinct : u.TagsDistinct) (k : SlotNo) (phase : Bool) :
    (u.withLane k ((u.slot k).lane.freed phase)).countFailure k =
      if (u.slot k).failures + 1 < u.params.faultThreshold then
        u.withSlot k { u.slot k with
          failures := (u.slot k).failures + 1, lane := { (u.slot k).lane.freed phase with resyncRequired := true } }
      else
        { (u.tenureEnded k .laneFault).withSlot k
            { u.slot k with
              failures := (u.slot k).failures + 1, state := .failed .laneFault
              lane := { (u.slot k).lane.freed phase with resyncRequired := false } } with
          pe := u.departed k
          au := u.au.post (.slotFailed k .laneFault) } := by
  let freed := u.withLane k ((u.slot k).lane.freed phase)
  have slot : freed.slot k = { u.slot k with lane := (u.slot k).lane.freed phase } := u.slot_withLane k _
  have departed : freed.departed k = u.departed k := u.departed_withLane k _
  rw [State.countFailure_eq (s := freed) distinct (by rw [slot]; rfl), slot, departed]
  refine if_congr Iff.rfl (u.withLane_withSlot k _ _) ?_
  exact congrArg (fun v : State => { v with pe := u.departed k, au := u.au.post (.slotFailed k .laneFault) })
    ((u.tenureEnded k .laneFault).withLane_withSlot k _ _)

/-- Settles O39: the failures by kind, each counted, fatal or ending a release. -/
theorem exchangeFailureEffects : Obligations.ExchangeFailureEffects := by
  unfold Obligations.ExchangeFailureEffects
  intro s k x status distinct
  refine ⟨fun t present kind => ?_, fun kind => ?_, fun kind => ?_, fun kind going => ?_, fun kind ended => ?_,
    fun t present kind => ?_⟩
  · have tag : x.kind.tag? = some t.tag := by rw [kind, Transaction.exchangeKind_tag?]
    rw [State.failExchange_of_tag tag, State.failAccess,
      State.withTransaction_eq (s := s.withLane k _) distinct present,
      State.endWithout_eq (s := s.withLane k _) distinct present, State.ended_withLane,
      ← s.slot_ended [t] (fun t => t.replyWith status (.generation t.generation)) k,
      State.countFailure_freed (State.ended_distinct distinct _ _), State.departed_ended]
    rfl
  · rw [State.failExchange_of_resync kind, State.countFailure_freed distinct]
    rfl
  · rw [State.failExchange_of_first kind, State.enterFailed_eq _ k (by decide), State.slot_withLane,
      State.departed_withLane, State.withLane_withSlot, Lane.abandoned_of_idle rfl]
    rfl
  · rw [State.failExchange_of_halt kind _ going, State.endRelease_eq, State.slot_withLane, State.departed_withLane,
      State.withLane_withSlot]
    rfl
  · exact State.failExchange_of_ended_halt kind status ended
  · have tag : x.kind.tag? = some t.tag := by rw [kind, Transaction.exchangeKind_tag?]
    rw [State.endCancelledExchange, tag]
    dsimp only
    rw [State.modLane_eq, State.withTransaction_eq (s := s.withLane k _) distinct present,
      State.endCancelled_eq (s := s.withLane k _) distinct present]
    rfl

end Sys2Proof.Machine
end

section
/-! SUPPORT. Answers and events of a module (R60, R64, R74, R79, R89, R97 to R100, R115, R123): the statements about the
judgement of lane frames. -/

namespace Sys2Proof.Machine

-- One proof at a time: many side by side take a thread and its stack each.
set_option Elab.async false

/-! ## A matching answer to a READ, a WRITE or a HALT (R74, R115, R123) -/

section
variable {s : State} {k : SlotNo} {x : Exchange} (f : LaneFrame)

/-- The Slot Controller after a matching answer to another exchange than a probe (R88, R96). -/
def Slot.answered (sl : Slot) : Slot := { sl with failures := 0, lane := sl.lane.freed (!sl.lane.outboundPhase) }

theorem State.matchedAnswer_of_tag {tag : Byte} (kind : x.kind.tag? = some tag) :
    s.matchedAnswer k x f = (s.withSlot k (s.slot k).answered).endAccess x tag f := by
  cases of_kind : x.kind with
  | read own offset count =>
    obtain rfl : own = tag := by rw [of_kind] at kind; exact Option.some.inj kind
    simp only [State.matchedAnswer, of_kind]
    rfl
  | write own offset count =>
    obtain rfl : own = tag := by rw [of_kind] at kind; exact Option.some.inj kind
    simp only [State.matchedAnswer, of_kind]
    rfl
  | _ => rw [of_kind] at kind; cases kind

theorem State.matchedAnswer_of_halt (kind : x.kind = .halt) (going : x.releaseEnded = false) :
    s.matchedAnswer k x f = (s.withSlot k (s.slot k).answered).endRelease k .confirmed := by
  simp only [State.matchedAnswer, kind, going, Bool.false_eq_true, if_false]
  rfl

theorem State.matchedAnswer_of_ended_halt (kind : x.kind = .halt) (ended : x.releaseEnded = true) :
    s.matchedAnswer k x f =
      s.withSlot k { (s.slot k).answered with lane := { (s.slot k).answered.lane with resyncRequired := true } } := by
  have answered : s.matchedAnswer k x f =
      (s.withSlot k (s.slot k).answered).modLane k fun l => { l with resyncRequired := true } := by
    simp only [State.matchedAnswer, kind, ended, if_true]
    rfl
  rw [answered, State.modLane_eq, State.slot_withSlot, State.withSlot_withLane]

end

section
variable {s : State} (distinct : s.TagsDistinct) {t : Transaction} (present : t ∈ s.transactions) {x : Exchange}
  {f : LaneFrame}
include distinct present

theorem State.endAccess_of_cancelled (cancelled : x.cancelled = true) :
    s.endAccess x t.tag f =
      s.ended [t] fun u => u.replyWith .cancelled
        (.cancelled t.generation (.performed (if f.kind = .refuse then some (byteOf f.argument) else none))) := by
  rw [State.endAccess, State.withTransaction_eq distinct present, if_pos cancelled]
  exact State.endTransaction_eq distinct present _ _

variable (live : x.cancelled = false)
include live

theorem State.endAccess_of_live : s.endAccess x t.tag f = s.completeTransaction t f := by
  rw [State.endAccess, State.withTransaction_eq distinct present, if_neg (by rw [live]; exact Bool.false_ne_true)]

theorem State.endAccess_of_refuse (refuse : f.kind = .refuse) :
    s.endAccess x t.tag f =
      s.ended [t] fun u => u.replyWith .moduleRefused (.moduleRefused t.generation (byteOf f.argument)) := by
  rw [State.endAccess_of_live distinct present live, State.completeTransaction, LaneFrame.refusal?, if_pos refuse]
  exact State.endTransaction_eq distinct present _ _

theorem State.endAccess_of_done (other : f.kind ≠ .refuse) (write : t.kind = .write) :
    s.endAccess x t.tag f = s.ended [t] fun u => u.replyWith .ok (.generation t.generation) := by
  rw [State.endAccess_of_live distinct present live, State.completeTransaction, LaneFrame.refusal?, if_neg other]
  dsimp only
  rw [write]
  exact State.endTransaction_eq distinct present _ _

theorem State.endAccess_of_data (other : f.kind ≠ .refuse) (read : t.kind = .read) :
    s.endAccess x t.tag f =
      { s with
        transactions := s.transactions.filter fun u => u != t
        pool := (s.pool.store t.blocks f.payload).setOwner t.blocks .reply
        hli := { s.hli with
          replies := s.hli.replies ++ [t.replyWith .ok (.data t.generation t.count t.blocks)] } } := by
  rw [State.endAccess_of_live distinct present live, State.completeTransaction, LaneFrame.refusal?, if_neg other]
  dsimp only
  rw [read]
  exact State.endTransaction_reply distinct present (s.pool.store t.blocks f.payload) _ _

end

/-- Settles O43: by the kind of the answer and the mark of the exchange. -/
theorem matchingAnswersEnd : Obligations.MatchingAnswersEnd := by
  unfold Obligations.MatchingAnswersEnd
  refine ⟨fun t => by cases kind : t.kind <;> simp only [Transaction.exchangeKind, kind],
    fun kind => by cases kind <;> rfl, fun s k x f distinct => ⟨fun t present kind => ?_, fun kind going => ?_,
      fun kind ended => State.matchedAnswer_of_ended_halt f kind ended⟩⟩
  · have answered : s.matchedAnswer k x f = (s.withSlot k (s.slot k).answered).endAccess x t.tag f :=
      State.matchedAnswer_of_tag f (by rw [kind, Transaction.exchangeKind_tag?])
    have distinct' : (s.withSlot k (s.slot k).answered).TagsDistinct := distinct
    refine ⟨fun cancelled => ?_, fun live refuse => ?_, fun live done write => ?_, fun live data read => ?_⟩
    · exact answered.trans (State.endAccess_of_cancelled distinct' present cancelled)
    · exact answered.trans (State.endAccess_of_refuse distinct' present live refuse)
    · exact answered.trans (State.endAccess_of_done distinct' present live (by rw [done]; decide) write)
    · exact answered.trans (State.endAccess_of_data distinct' present live (by rw [data]; decide) read)
  · rw [State.matchedAnswer_of_halt f kind going, State.endRelease_eq, State.slot_withSlot,
      State.departed_withSlot s (sl := (s.slot k).answered) rfl,
      State.withSlot_withSlot]
    rfl

/-! ## The judgement of an identity (R7, R64) -/

section
variable (u : State) (k : SlotNo) {sl : Slot} {id : Identity}

theorem State.judge_of_unknown (unknown : u.pe.lookup id.classCode = none) :
    (u.withSlot k sl).judge k id =
      u.withSlot k { sl with state := .unknownClass, lane := { sl.lane with resyncRequired := false } } := by
  have unknown : (u.withSlot k sl).pe.lookup id.classCode = none := unknown
  simp only [State.judge, unknown]
  rw [State.modSlot_eq, State.slot_withSlot, State.withSlot_withSlot, Slot.enter_eq _ (st := .unknownClass) rfl]

variable {c : ClassEntry} (known : u.pe.lookup id.classCode = some c)
include known

theorem State.judge_of_mismatch (beyond : c.span < id.eventCount) (absent : sl.state.participates = false)
    (idle : sl.lane.exchange = none) :
    (u.withSlot k sl).judge k id =
      { u.withSlot k { sl with state := .failed .spanMismatch, lane := { sl.lane with resyncRequired := false } } with
        au := u.au.post (.slotFailed k .spanMismatch) } := by
  have known : (u.withSlot k sl).pe.lookup id.classCode = some c := known
  have failed : (u.withSlot k sl).judge k id = (u.withSlot k sl).enterFailed k .spanMismatch := by
    simp only [State.judge, known, if_pos beyond]
  rw [failed, State.enterFailed_eq _ k (by decide),
    State.departed_of_absent (s := u.withSlot k sl) (by rw [State.slot_withSlot]; exact absent), State.slot_withSlot,
    State.withSlot_withSlot, Lane.abandoned_of_idle idle]
  rfl

theorem State.judge_of_fits (fits : ¬c.span < id.eventCount) :
    (u.withSlot k sl).judge k id = (u.withSlot k sl).join k := by
  have known : (u.withSlot k sl).pe.lookup id.classCode = some c := known
  simp only [State.judge, known, if_neg fits]

end

/-! ## An IDENT that ends a probe (R60, R79, R88) -/

/-- A new identity is recorded, the join counted, and the identity judged (R60, R64). -/
theorem State.newJoin_eq (u : State) (k : SlotNo) (sl : Slot) (id : Identity) :
    (u.withSlot k sl).newJoin k id =
      (u.withSlot k { sl with identity := some id, joinCount := nextJoinCount sl.joinCount }).judge k id := by
  rw [State.newJoin, State.modSlot_eq, State.slot_withSlot, State.withSlot_withSlot]

section
variable {s : State} {k : SlotNo} {x : Exchange} (f : LaneFrame)

/-- The Slot Controller after an IDENT has ended a probe (R88, R96). -/
def Slot.identified (sl : Slot) : Slot :=
  { sl with failures := 0, lane := { sl.lane.freed false with lastEventPhase := false } }

/-- After a resync PROBE resync required is cleared as well (R95). -/
def Slot.resynced (sl : Slot) : Slot :=
  { sl.identified with lane := { sl.identified.lane with resyncRequired := false } }

theorem State.matchedAnswer_of_first (kind : x.kind = .probe .first) :
    s.matchedAnswer k x f = (s.withSlot k (s.slot k).identified).newJoin k f.identity := by
  simp only [State.matchedAnswer, kind]
  rfl

theorem State.matchedAnswer_of_resync (kind : x.kind = .probe .resync) :
    s.matchedAnswer k x f =
      (s.withSlot k (s.slot k).resynced).resyncIdent k f.identity := by
  have answered : s.matchedAnswer k x f =
      ((s.withSlot k (s.slot k).identified).modLane k fun l => { l with resyncRequired := false }).resyncIdent k f.identity := by
    simp only [State.matchedAnswer, kind]
    rfl
  rw [answered, State.modLane_eq, State.slot_withSlot, State.withSlot_withLane]
  rfl

end

section
variable {u : State} {k : SlotNo} {sl : Slot} {id old : Identity} (identity : sl.identity = some old)
include identity

theorem State.resyncIdent_of_same (same : id.same old = true) :
    (u.withSlot k sl).resyncIdent k id = u.withSlot k { sl with identity := some id } := by
  rw [State.resyncIdent, State.slot_withSlot, identity, Option.map_some, Option.getD_some, if_pos same, State.modSlot_eq,
    State.slot_withSlot, State.withSlot_withSlot]

/-- The old tenure ends before the new identity is judged (R79, R117). -/
theorem State.resyncIdent_of_other (distinct : u.TagsDistinct) (state : sl.state = (u.slot k).state)
    (other : id.same old = false) :
    (u.withSlot k sl).resyncIdent k id =
      (State.withSlot
        { u.tenureEnded k .moduleGone with
          pe := u.departed k
          au := u.au.post (.moduleLeft k old.classCode .identityChanged) } k
        { sl with state := .probing, lane := { sl.lane with resyncRequired := false } }).newJoin k id := by
  have code : ((u.withSlot k sl).slot k).classCode = old.classCode := by
    rw [State.slot_withSlot, Slot.classCode, identity]
    rfl
  have distinct : (u.withSlot k sl).TagsDistinct := distinct
  have left : ((u.withSlot k sl).endTenure k .moduleGone).leave k .probing =
      { (u.tenureEnded k .moduleGone).withSlot k
          { sl with state := .probing, lane := { sl.lane with resyncRequired := false } } with
        pe := u.departed k } := by
    rw [State.endTenure_eq distinct, State.leave_eq_departed _ k (st := .probing) rfl, State.departed_ended,
      State.departed_withSlot u state, State.slot_ended, State.slot_withSlot, State.ended_withSlot, State.withSlot_withSlot]
    rfl
  rw [State.resyncIdent, if_neg (by rw [State.slot_withSlot, identity, Option.map_some, Option.getD_some, other]; exact Bool.false_ne_true)]
  dsimp only
  rw [left, code]
  rfl

end

theorem Identity.same_iff {a b : Identity} : a.same b = true ↔ b.classCode = a.classCode ∧ b.eventCount = a.eventCount := by
  rw [Identity.same, Bool.and_eq_true, beq_iff_eq, beq_iff_eq]
  exact and_congr eq_comm eq_comm

/-- Settles O44: a first IDENT and a changed one are judged alike; a confirmed one changes only the record. -/
theorem identJudged : Obligations.IdentJudged := by
  unfold Obligations.IdentJudged
  intro s k x f
  refine ⟨fun kind probing => ?_, fun old kind part identity => ⟨fun code count => ?_, fun changed distinct => ?_⟩⟩
  · rw [State.matchedAnswer_of_first f kind, State.newJoin_eq]
    have absent : (s.slot k).identified.state.participates = false := by rw [Slot.identified, probing]; rfl
    dsimp only
    split
    next unknown => exact State.judge_of_unknown s k unknown
    next c known =>
      split
      next beyond => exact State.judge_of_mismatch s k known beyond absent rfl
      next fits => exact State.judge_of_fits s k known fits
  · rw [State.matchedAnswer_of_resync f kind, State.resyncIdent_of_same (sl := (s.slot k).resynced) (old := old) identity
      ((Identity.same_iff (a := f.identity)).mpr ⟨code, count⟩)]
    rfl
  · have other : f.identity.same old = false := Bool.eq_false_iff.mpr fun same => changed (Identity.same_iff.mp same)
    rw [State.matchedAnswer_of_resync f kind, State.resyncIdent_of_other (sl := (s.slot k).resynced) (old := old) identity distinct rfl other,
      State.newJoin_eq]
    dsimp only
    split
    next unknown => exact State.judge_of_unknown _ k unknown
    next c known =>
      split
      next beyond => exact State.judge_of_mismatch _ k known beyond rfl rfl
      next fits => exact State.judge_of_fits _ k known fits

end Sys2Proof.Machine
end

section
/-! SUPPORT. The lane receiver and the bytes of lane frames (R83, R84, R172): delimiting, and reading back. -/

namespace Sys2Proof.Machine

-- One proof at a time: many side by side take a thread and its stack each.
set_option Elab.async false

/-! ## One byte (R172) -/

theorem LaneReceiver.take_between (b : Byte) :
    LaneReceiver.between.take b = if b = 0xC3 then .more [] else .discarded := rfl

theorem LaneReceiver.take_header {received : List Byte} (short : received.length < 3) (b : Byte) :
    (LaneReceiver.inside received).take b = .more (received ++ [b]) := by
  have none : (received ++ [b])[3]? = none := List.getElem?_eq_none (by rw [List.length_append, List.length_singleton]; omega)
  simp only [LaneReceiver.take, none]

theorem LaneReceiver.take_counted {received : List Byte} {b count : Byte} (third : (received ++ [b])[3]? = some count) :
    (LaneReceiver.inside received).take b =
      if 32 < count.toNat then .tooLong
      else if received.length + 1 < 4 + 4 * count.toNat + 2 then .more (received ++ [b])
      else .complete (received ++ [b]) := by
  simp only [LaneReceiver.take, third, List.length_append, List.length_singleton]
  rfl

/-- One byte of a frame whose word count announces its length. -/
theorem LaneReceiver.take_of_body {body received later : List Byte} {b count : Byte} (parts : body = received ++ b :: later)
    (third : body[3]? = some count) (low : count.toNat ≤ 32) (length : body.length = 4 + 4 * count.toNat + 2) :
    (LaneReceiver.inside received).take b = if later = [] then .complete body else .more (received ++ [b]) := by
  have total : body.length = received.length + (later.length + 1) := by rw [parts, List.length_append, List.length_cons]
  by_cases short : received.length < 3
  · rw [LaneReceiver.take_header short, if_neg (by rintro rfl; rw [List.length_nil] at total; omega)]
  · have counted : (received ++ [b])[3]? = some count := by
      rw [← third, parts, show received ++ b :: later = (received ++ [b]) ++ later by simp]
      exact (List.getElem?_append_left (by rw [List.length_append, List.length_singleton]; omega)).symm
    rw [LaneReceiver.take_counted counted, if_neg (by omega)]
    cases later with
    | nil =>
      rw [if_neg (by rw [List.length_nil] at total; omega), if_pos rfl, parts]
    | cons c later => rw [if_pos (by rw [List.length_cons] at total; omega), if_neg (List.cons_ne_nil _ _)]

section
variable {s : State} {k : SlotNo} {b : Byte}

theorem State.takeLaneByte_of_discarded (taken : (s.slot k).lane.receiver.take b = .discarded) : s.takeLaneByte k b = s := by
  simp only [State.takeLaneByte, taken]

theorem State.takeLaneByte_of_more {received : List Byte} (taken : (s.slot k).lane.receiver.take b = .more received) :
    s.takeLaneByte k b = s.setLaneReceiver k (.inside received) := by
  simp only [State.takeLaneByte, taken]

theorem State.takeLaneByte_of_tooLong (taken : (s.slot k).lane.receiver.take b = .tooLong) :
    s.takeLaneByte k b = (s.setLaneReceiver k .between).countUngood k := by
  simp only [State.takeLaneByte, taken]

theorem State.takeLaneByte_of_complete {received : List Byte} (taken : (s.slot k).lane.receiver.take b = .complete received) :
    s.takeLaneByte k b = ((s.setLaneReceiver k .between).judgeFrame k received).advance k := by
  simp only [State.takeLaneByte, taken]

end

theorem State.setLaneReceiver_eq (s : State) (k : SlotNo) (r : LaneReceiver) :
    s.setLaneReceiver k r = s.withLane k { (s.slot k).lane with receiver := r } := rfl

/-- The counters of a lane after a frame that is not judged good (R84, R172). -/
def Slot.ungood (sl : Slot) : LaneCounters :=
  if sl.state = .empty ∨ sl.state = .settling then
    { sl.lane.counters with ignoredFrames := bump sl.lane.counters.ignoredFrames }
  else { sl.lane.counters with badFrames := bump sl.lane.counters.badFrames }

theorem State.countUngood_eq (s : State) (k : SlotNo) :
    s.countUngood k = s.withLane k { (s.slot k).lane with counters := (s.slot k).ungood } := by
  have counted (c : LaneCounters) :
      (if (s.slot k).state.unjudged then { c with ignoredFrames := bump c.ignoredFrames }
        else { c with badFrames := bump c.badFrames }) =
      if (s.slot k).state = .empty ∨ (s.slot k).state = .settling then { c with ignoredFrames := bump c.ignoredFrames }
        else { c with badFrames := bump c.badFrames } := if_congr (SlotState.unjudged_iff _) rfl rfl
  rw [State.countUngood, State.countLane_eq, counted]
  rfl

theorem State.lostFrame_eq (s : State) (k : SlotNo) :
    (s.setLaneReceiver k .between).countUngood k =
      s.withLane k { (s.slot k).lane with receiver := .between, counters := (s.slot k).ungood } := by
  rw [State.countUngood_eq, State.setLaneReceiver_eq, State.slot_withLane, State.withLane_withLane]
  rfl

/-! ## A whole frame (R172) -/

theorem State.transmit_setLaneReceiver (s : State) (k : SlotNo) (r : LaneReceiver) :
    (s.setLaneReceiver k r).transmit = s.transmit.setLaneReceiver k r := by
  rw [State.transmit_eq, State.transmit_eq]
  rfl

theorem State.setLaneReceiver_setLaneReceiver (s : State) (k : SlotNo) (r r' : LaneReceiver) :
    (s.setLaneReceiver k r).setLaneReceiver k r' = s.setLaneReceiver k r' := by
  rw [State.setLaneReceiver_eq, State.setLaneReceiver_eq, State.slot_withLane, State.withLane_withLane]
  rfl

theorem State.setLaneReceiver_self {s : State} {k : SlotNo} {r : LaneReceiver} (same : (s.slot k).lane.receiver = r) :
    s.setLaneReceiver k r = s := by
  subst same
  exact s.withSlot_slot k

/-- The bytes of a frame after its start byte, from one on to the last, with the transmitter's choice made before. -/
theorem runAll_laneBytes {s : State} {k : SlotNo} {body : List Byte} {count : Byte} (running : s.held = false)
    (third : body[3]? = some count) (few : count.toNat ≤ 32) (length : body.length = 4 + 4 * count.toNat + 2)
    {lines : List LineByte} (low : ∀ line ∈ lines, line.start = false) (some_line : lines ≠ []) {received : List Byte}
    (parts : body = received ++ lines.map byteOnLine) :
    runAll (lines.map (Instr.laneByteReceived k)) (s.transmit.setLaneReceiver k (.inside received)) =
      .next (State.transmit (((s.transmit.setLaneReceiver k .between).judgeFrame k body).advance k)) := by
  induction lines generalizing received with
  | nil => exact absurd rfl some_line
  | cons line lines ih =>
    let u := s.transmit.setLaneReceiver k (.inside received)
    have start := low line List.mem_cons_self
    have receiver : (u.slot k).lane.receiver = .inside received := by
      simp only [u, State.setLaneReceiver_eq, State.slot_withLane]
    have step := (State.Happens.laneByteReceived (s := u) k line start).exec_eq ((State.transmit_held s).trans running)
    have taken := LaneReceiver.take_of_body (later := lines.map byteOnLine) parts third few length
    rw [← receiver] at taken
    rw [List.map_cons, runAll_cons step]
    cases lines with
    | nil =>
      rw [State.takeLaneByte_of_complete (taken.trans (if_pos rfl)), State.setLaneReceiver_setLaneReceiver]
      rfl
    | cons next lines =>
      rw [State.takeLaneByte_of_more (taken.trans (if_neg (List.cons_ne_nil _ _))), State.setLaneReceiver_setLaneReceiver,
        State.transmit_setLaneReceiver, State.transmit_transmit]
      exact ih (fun l hl => low l (List.mem_cons_of_mem line hl)) (List.cons_ne_nil _ _) (by rw [parts]; simp)

/-- Settles O40: one byte by the receiver's rules, a whole frame byte by byte. -/
theorem laneBytesDelimited : Obligations.LaneBytesDelimited := by
  unfold Obligations.LaneBytesDelimited
  refine ⟨fun s k line running low => ?_, fun s k header hi lo count rest lines running low between few length bytes => ?_⟩
  · have next := (State.Happens.laneByteReceived k line low).exec_eq running
    refine ⟨fun between other => ?_, fun between start => ?_, fun received inside => ⟨?_, fun short => ?_, fun third high => ?_⟩⟩
    · rw [next, State.takeLaneByte_of_discarded (by rw [between, LaneReceiver.take_between, if_neg other])]
    · rw [next, State.takeLaneByte_of_more (received := []) (by rw [between, LaneReceiver.take_between, if_pos start])]
      rfl
    · rw [(State.Happens.laneSilenceTimeout k received inside).exec_eq running, State.lostFrame_eq]
      rfl
    · rw [next, State.takeLaneByte_of_more (by rw [inside, LaneReceiver.take_header short])]
      rfl
    · have counted : (received ++ [byteOnLine line])[3]? = some (byteOnLine line) := by
        rw [← third]
        exact List.getElem?_concat_length
      rw [next, State.takeLaneByte_of_tooLong (by rw [inside, LaneReceiver.take_counted counted, if_pos high]),
        State.lostFrame_eq]
      rfl
  · obtain ⟨first, later, rfl, startByte, bytes⟩ := List.map_eq_cons_iff.mp bytes
    have start := (State.Happens.laneByteReceived k first (low first List.mem_cons_self)).exec_eq running
    have still : s.transmit.setLaneReceiver k .between = s.transmit :=
      State.setLaneReceiver_self (by rw [State.slot_transmit, between])
    have run := runAll_laneBytes (body := [header, hi, lo, count] ++ rest) (k := k) (lines := later) (received := [])
      running rfl few (by rw [List.length_append, length]; simp; omega) (fun l hl => low l (List.mem_cons_of_mem _ hl))
      (by rintro rfl; cases bytes) bytes.symm
    rw [still] at run
    rw [List.map_cons, runAll_cons start,
      State.takeLaneByte_of_more (received := []) (by rw [between, LaneReceiver.take_between, if_pos startByte]),
      State.transmit_setLaneReceiver, run]

end Sys2Proof.Machine
end


section
/-! SUPPORT. The good lane frames of R84: exactly the bytes of the layout of R172 are read as a frame, with every field. -/

namespace Sys2Proof.Machine

-- One proof at a time: many side by side take a thread and its stack each.
set_option Elab.async false

/-! ## The header byte and the numbers of a frame -/

/-- A kind code under bit 7 is read back from the header, and bit 7 is the phase (R172). -/
theorem header_read {code : Nat} (h : code < 128) (phase : Bool) :
    (byteOf (code + if phase then 128 else 0)).toNat % 128 = code ∧
      (byteOf (code + if phase then 128 else 0)).msb = phase := by
  cases phase
  · have value : (byteOf (code + if false then 128 else 0)).toNat = code := toNat_byteOf (show code + 0 < 256 by omega)
    rw [BitVec.msb_eq_decide, value]
    exact ⟨by omega, decide_eq_false (by omega)⟩
  · have value : (byteOf (code + if true then 128 else 0)).toNat = code + 128 :=
      toNat_byteOf (show code + 128 < 256 by omega)
    rw [BitVec.msb_eq_decide, value]
    exact ⟨by omega, decide_eq_true (by omega)⟩

/-- A header byte is its low seven bits under its phase. -/
theorem header_eq (header : Byte) : header = byteOf (header.toNat % 128 + if header.msb then 128 else 0) := by
  have bound := header.isLt
  have value : header.toNat % 128 + (if header.msb then 128 else 0) = header.toNat := by
    rw [BitVec.msb_eq_decide]
    split <;> rename_i high <;> simp only [decide_eq_true_eq] at high <;> omega
  rw [value, byteOf_toNat]

theorem be16_num16 (hi lo : Byte) : be16 (num16 hi lo) = [hi, lo] := by
  have high : byteOf (num16 hi lo / 256) = hi := by
    have quotient : num16 hi lo / 256 = hi.toNat := by unfold num16; have := lo.isLt; omega
    rw [quotient, byteOf_toNat]
  have low : byteOf (num16 hi lo) = lo := by
    refine BitVec.eq_of_toNat_eq ?_
    have := lo.isLt
    simp only [byteOf, num16, BitVec.toNat_ofNat]
    omega
  simp only [be16, high, low]

theorem num16_be16 {n : Nat} (h : n < 65536) : num16 (byteOf (n / 256)) (byteOf n) = n := by
  simp only [num16, byteOf, BitVec.toNat_ofNat]
  omega

/-! ## The good frames -/

/-- The kinds of the module with their codes and the word counts R84 admits for them. -/
theorem moduleKind_iff (code count : Nat) (kind : LaneKind) :
    (LaneKind.ofModule code = some kind ∧ kind.admitsCount count = true) ↔
      (kind = .ident ∧ code = 0x9 ∧ (count = 2 ∨ count = 3)) ∨
        (kind = .data ∧ code = 0xA ∧ 1 ≤ count ∧ count ≤ 32) ∨
        (kind = .done ∧ code = 0xB ∧ count = 0) ∨
        (kind = .refuse ∧ code = 0xC ∧ count = 0) ∨
        (kind = .event ∧ code = 0xD ∧ count ≤ 4) := by
  unfold LaneKind.ofModule
  constructor
  · rintro ⟨known, admitted⟩
    split at known
    case isTrue h => cases known; simpa [LaneKind.admitsCount, h] using admitted
    split at known
    case isTrue h =>
      cases known
      obtain ⟨low, high⟩ := Bool.and_eq_true_iff.mp admitted
      exact .inr (.inl ⟨rfl, h, of_decide_eq_true low, of_decide_eq_true high⟩)
    split at known
    case isTrue h => cases known; simpa [LaneKind.admitsCount, h] using admitted
    split at known
    case isTrue h => cases known; simpa [LaneKind.admitsCount, h] using admitted
    split at known
    case isTrue h => cases known; simpa [LaneKind.admitsCount, h] using admitted
    cases known
  · rintro (⟨rfl, rfl, h⟩ | ⟨rfl, rfl, low, high⟩ | ⟨rfl, rfl, h⟩ | ⟨rfl, rfl, h⟩ | ⟨rfl, rfl, h⟩)
    · simpa [LaneKind.admitsCount] using h
    · exact ⟨rfl, Bool.and_eq_true_iff.mpr ⟨decide_eq_true low, decide_eq_true high⟩⟩
    · simpa [LaneKind.admitsCount] using h
    · simpa [LaneKind.admitsCount] using h
    · simpa [LaneKind.admitsCount] using h

/-- The bytes split before the last two are a list with its check. -/
theorem checked_iff (received covered : List Byte) :
    (received.take (received.length - 2) = covered ∧
        received.drop (received.length - 2) = checkBytes (received.take (received.length - 2))) ↔
      received = covered ++ checkBytes covered := by
  constructor
  · rintro ⟨rfl, check⟩
    rw [← check, List.take_append_drop]
  · intro whole
    have length : received.length - 2 = covered.length := by
      rw [whole, List.length_append]
      exact Nat.add_sub_cancel covered.length 2
    rw [length, whole, List.take_left, List.drop_left]
    exact ⟨rfl, rfl⟩

/-- The frames that are read: what each byte of the layout gives (R84, R172). -/
theorem parseLaneFrame_eq_some {received : List Byte} {f : LaneFrame} :
    parseLaneFrame received = some f ↔
      ∃ header hi lo count payload,
        received = (header :: hi :: lo :: count :: payload) ++ checkBytes (header :: hi :: lo :: count :: payload) ∧
        LaneKind.ofModule (header.toNat % 128) = some f.kind ∧ wordsOf payload = some f.payload ∧
        f.kind.admitsCount count.toNat = true ∧ f.payload.length = count.toNat ∧
        f.phase = header.msb ∧ f.argument = num16 hi lo ∧ f.count = count.toNat := by
  constructor
  · intro parsed
    unfold parseLaneFrame at parsed
    dsimp only at parsed
    split at parsed
    case isFalse => cases parsed
    rename_i check
    split at parsed
    case h_2 => cases parsed
    rename_i header hi lo count payload shape
    split at parsed
    case h_2 => cases parsed
    rename_i kind ws known words
    split at parsed
    case isFalse => cases parsed
    rename_i good
    cases parsed
    exact ⟨header, hi, lo, count, payload, (checked_iff _ _).mp ⟨shape, check⟩, known, words, good.1, good.2, rfl, rfl, rfl⟩
  · rintro ⟨header, hi, lo, count, payload, whole, known, words, admitted, length, phase, argument, counted⟩
    obtain ⟨shape, check⟩ := (checked_iff _ _).mpr whole
    unfold parseLaneFrame
    dsimp only
    rw [if_pos check, shape]
    dsimp only
    rw [known, words]
    dsimp only
    rw [if_pos ⟨admitted, length⟩, ← phase, ← argument, ← counted]

/-- The frames that are read, by the layout of their fields. -/
theorem parseLaneFrame_iff {received : List Byte} {f : LaneFrame} :
    parseLaneFrame received = some f ↔
      f.argument < 65536 ∧ f.payload.length = f.count ∧
      ∃ code,
        let covered : List Byte :=
          byteOf (code + if f.phase then 128 else 0) :: (be16 f.argument ++ [byteOf f.count] ++ f.payload.flatMap be32)
        received = covered ++ checkBytes covered ∧
        LaneKind.ofModule code = some f.kind ∧ f.kind.admitsCount f.count = true := by
  rw [parseLaneFrame_eq_some]
  constructor
  · rintro ⟨header, hi, lo, count, payload, whole, known, words, admitted, length, phase, argument, counted⟩
    have layout : byteOf (header.toNat % 128 + if f.phase then 128 else 0) ::
        (be16 f.argument ++ [byteOf f.count] ++ f.payload.flatMap be32) = header :: hi :: lo :: count :: payload := by
      rw [phase, ← header_eq, argument, be16_num16, counted, byteOf_toNat, ← wordsOf_eq_some words]
      rfl
    refine ⟨argument ▸ num16_lt hi lo, length.trans counted.symm, header.toNat % 128, ?_, known, counted ▸ admitted⟩
    rw [layout]
    exact whole
  · rintro ⟨argument, length, code, whole, known, admitted⟩
    have few : code < 128 ∧ f.count < 256 := by
      have cases := (moduleKind_iff code f.count f.kind).mp ⟨known, admitted⟩
      omega
    obtain ⟨kindRead, phaseRead⟩ := header_read few.1 f.phase
    have countRead := toNat_byteOf few.2
    exact ⟨_, _, _, _, _, whole, kindRead.symm ▸ known, wordsOf_flatMap_be32 f.payload, countRead.symm ▸ admitted,
      length.trans countRead.symm, phaseRead.symm, (num16_be16 argument).symm, countRead.symm⟩

/-- A kind of the module is read from its own code. -/
theorem ofModule_code {kind : LaneKind} (h : kind ∈ [LaneKind.ident, .data, .done, .refuse, .event]) :
    LaneKind.ofModule kind.code = some kind := by
  revert h
  cases kind <;> decide

/-- Settles O41, from what each byte of the layout gives and what the layout of a frame's fields reads back as. -/
theorem laneFrameRoundTrip : Obligations.LaneFrameRoundTrip := by
  unfold Obligations.LaneFrameRoundTrip
  refine ⟨fun f module argument length admitted => ⟨rfl, ?_⟩, fun received f => ?_⟩
  · exact parseLaneFrame_iff.mpr ⟨argument, length, f.kind.code, rfl, ofModule_code module, admitted⟩
  · rw [parseLaneFrame_iff]
    simp only [moduleKind_iff]

end Sys2Proof.Machine
end


section
/-! SUPPORT. The judgement of a received lane frame (R84, R89, R94) and of a module event (R97 to R100, R129). -/

namespace Sys2Proof.Machine

-- One proof at a time: many side by side take a thread and its stack each.
set_option Elab.async false

/-! ## Answers (R89) -/

theorem ExchangeKind.isProbe_eq_true {kind : ExchangeKind} : kind.isProbe = true ↔ ∃ p, kind = .probe p := by
  cases kind <;> simp [ExchangeKind.isProbe]

theorem ExchangeKind.isProbe_eq_false {kind : ExchangeKind} : kind.isProbe = false ↔ ∀ p, kind ≠ .probe p := by
  cases kind <;> simp [ExchangeKind.isProbe]

/-- The matching kinds of R89, case 4. -/
theorem LaneFrame.matchesKind_iff (f : LaneFrame) (kind : ExchangeKind) :
    f.matchesKind kind = true ↔
      (f.kind = .ident ∧ ∃ p, kind = .probe p) ∨
        (f.kind = .refuse ∧ ∃ tag, kind.tag? = some tag) ∨
        (f.kind = .data ∧ ∃ tag offset, kind = .read tag offset f.count) ∨
        (f.kind = .done ∧ (kind = .halt ∨ ∃ tag offset count, kind = .write tag offset count)) := by
  unfold LaneFrame.matchesKind
  cases kind with
  | read tag offset count => cases f.kind <;> simp [ExchangeKind.tag?, eq_comm (a := f.count)]
  | _ => cases f.kind <;> simp [ExchangeKind.tag?]

/-- The counters of a lane change and nothing else. -/
def State.counting (s : State) (k : SlotNo) (c : LaneCounters) : State :=
  s.withLane k { (s.slot k).lane with counters := c }

theorem State.counting_counting (s : State) (k : SlotNo) (a b : LaneCounters) :
    (s.counting k a).counting k b = s.counting k b := by
  simp only [State.counting, State.slot_withLane, State.withLane_withLane]

theorem State.countLane_counting (s : State) (k : SlotNo) (a : LaneCounters) (f : LaneCounters → LaneCounters) :
    (s.counting k a).countLane k f = s.counting k (f a) := by
  rw [State.countLane_eq]
  simp only [State.counting, State.slot_withLane, State.withLane_withLane]

theorem State.expireCancelled_eq (s : State) (k : SlotNo) (x : Exchange) :
    s.expireCancelled k x =
      (s.counting k { (s.slot k).lane.counters with
        expiredExchanges := bump (s.slot k).lane.counters.expiredExchanges }).endCancelledExchange k x := rfl

section
variable {s : State} {k : SlotNo} {f : LaneFrame} {x : Exchange}

theorem State.judgeAnswer_of_none (free : (s.slot k).lane.exchange = none) :
    s.judgeAnswer k f =
      s.counting k { (s.slot k).lane.counters with staleAnswers := bump (s.slot k).lane.counters.staleAnswers } := by
  rw [State.judgeAnswer, free]
  rfl

theorem State.judgeAnswer_of_noProbe (exchange : (s.slot k).lane.exchange = some x)
    (ident : f.kind = .ident ∧ x.kind.isProbe = false) :
    s.judgeAnswer k f =
      s.counting k { (s.slot k).lane.counters with staleAnswers := bump (s.slot k).lane.counters.staleAnswers } := by
  rw [State.judgeAnswer, exchange]
  exact if_pos ident

theorem State.judgeAnswer_of_otherPhase (exchange : (s.slot k).lane.exchange = some x) (phase : f.phase ≠ x.phase) :
    s.judgeAnswer k f =
      s.counting k { (s.slot k).lane.counters with staleAnswers := bump (s.slot k).lane.counters.staleAnswers } := by
  rw [State.judgeAnswer, exchange]
  exact (if_congr Iff.rfl rfl (if_pos phase)).trans (ite_self _)

/-- An answer of use, which is one of the phase of the exchange that is not an IDENT to no PROBE (R89). -/
theorem State.judgeAnswer_of_use (exchange : (s.slot k).lane.exchange = some x) (phase : f.phase = x.phase)
    (use : ¬(f.kind = .ident ∧ x.kind.isProbe = false)) :
    s.judgeAnswer k f = if f.matchesKind x.kind then s.matchedAnswer k x f else s.wrongAnswer k x := by
  rw [State.judgeAnswer, exchange]
  exact (if_neg use).trans (if_neg (not_not_intro phase))

theorem State.judgeFrame_of_unjudged {received : List Byte} (unjudged : (s.slot k).state = .empty ∨ (s.slot k).state = .settling) :
    s.judgeFrame k received =
      s.counting k { (s.slot k).lane.counters with ignoredFrames := bump (s.slot k).lane.counters.ignoredFrames } := by
  rw [State.judgeFrame, if_pos ((SlotState.unjudged_iff _).mpr unjudged), State.countUngood_eq, Slot.ungood, if_pos unjudged]
  rfl

theorem State.judgeFrame_of_bad {received : List Byte}
    (judged : ¬((s.slot k).state = .empty ∨ (s.slot k).state = .settling)) (bad : parseLaneFrame received = none) :
    s.judgeFrame k received =
      s.counting k { (s.slot k).lane.counters with badFrames := bump (s.slot k).lane.counters.badFrames } := by
  rw [State.judgeFrame, if_neg (mt (SlotState.unjudged_iff _).mp judged), bad]
  dsimp only
  rw [State.countUngood_eq, Slot.ungood, if_neg judged]
  rfl

theorem State.judgeFrame_of_good {received : List Byte}
    (judged : ¬((s.slot k).state = .empty ∨ (s.slot k).state = .settling)) (good : parseLaneFrame received = some f) :
    s.judgeFrame k received =
      let counted := s.counting k { (s.slot k).lane.counters with
        receivedFrames := bump (s.slot k).lane.counters.receivedFrames }
      if f.kind = .event then counted.judgeEvent k f else counted.judgeAnswer k f := by
  rw [State.judgeFrame, if_neg (mt (SlotState.unjudged_iff _).mp judged), good]
  rfl

end

theorem State.exchange_counting (s : State) (k : SlotNo) (c : LaneCounters) :
    ((s.counting k c).slot k).lane.exchange = (s.slot k).lane.exchange := by
  rw [State.counting, State.slot_withLane]

theorem State.counters_counting (s : State) (k : SlotNo) (c : LaneCounters) :
    ((s.counting k c).slot k).lane.counters = c := by
  rw [State.counting, State.slot_withLane]

/-- Settles O42, by the kind of the frame and its use to the exchange. -/
theorem answersJudged : Obligations.AnswersJudged := by
  unfold Obligations.AnswersJudged
  intro s k received
  refine ⟨State.judgeFrame_of_unjudged, fun occupied settled => ?_⟩
  have judged := not_or.mpr ⟨occupied, settled⟩
  refine ⟨State.judgeFrame_of_bad judged, fun f good event => ?_, fun f good answer => ?_⟩
  · rw [State.judgeFrame_of_good judged good]
    exact if_pos event
  · have taken := (State.judgeFrame_of_good judged good).trans (if_neg answer)
    refine ⟨fun free => ?_, fun x exchange => ?_⟩
    · rw [taken, State.judgeAnswer_of_none ((State.exchange_counting s k _).trans free), State.counters_counting,
        State.counting_counting]
      rfl
    · have outstanding (c : LaneCounters) := (State.exchange_counting s k c).trans exchange
      refine ⟨fun ident other => ?_, fun phase => ?_, fun phase use wrong => ?_, fun phase matched => ?_⟩
      · rw [taken, State.judgeAnswer_of_noProbe (outstanding _) ⟨ident, ExchangeKind.isProbe_eq_false.mpr other⟩,
          State.counters_counting, State.counting_counting]
        rfl
      · rw [taken, State.judgeAnswer_of_otherPhase (outstanding _) phase, State.counters_counting, State.counting_counting]
        rfl
      · rw [taken, State.judgeAnswer_of_use (outstanding _) phase
            fun h => use ⟨h.1, ExchangeKind.isProbe_eq_false.mp h.2⟩,
          if_neg (mt (LaneFrame.matchesKind_iff f x.kind).mp wrong), State.wrongAnswer, State.countLane_counting]
        refine ⟨fun live => ?_, fun cancelled => ?_⟩
        · rw [live]
          rfl
        · rw [if_pos cancelled, State.expireCancelled_eq, State.counters_counting, State.counting_counting]
          rfl
      · have use : ¬(f.kind = .ident ∧ x.kind.isProbe = false) := by
          rintro ⟨ident, other⟩
          have noProbe := ExchangeKind.isProbe_eq_false.mp other
          rcases matched with ⟨_, p, probe⟩ | ⟨refuse, _⟩ | ⟨data, _⟩ | ⟨done, _⟩
          · exact noProbe p probe
          · exact absurd (ident.symm.trans refuse) (by decide)
          · exact absurd (ident.symm.trans data) (by decide)
          · exact absurd (ident.symm.trans done) (by decide)
        rw [taken, State.judgeAnswer_of_use (outstanding _) phase use,
          if_pos ((LaneFrame.matchesKind_iff f x.kind).mpr matched)]
        rfl

/-! ## Events (R97 to R100) -/

section
variable (s : State) (k : SlotNo)

theorem State.ackEvent_eq (phase : Bool) (count : LaneCounters → LaneCounters) :
    s.ackEvent k phase count =
      s.withLane k { (s.slot k).lane with
        eventAnswer := some ⟨true, phase⟩, lastEventPhase := phase, counters := count (s.slot k).lane.counters } := by
  rw [State.ackEvent, State.modLane_eq, State.countLane_eq, State.slot_withLane, State.withLane_withLane]
  rfl

theorem State.waitEvent_eq (phase : Bool) :
    s.waitEvent k phase =
      s.withLane k { (s.slot k).lane with
        eventAnswer := some ⟨false, phase⟩
        counters := { (s.slot k).lane.counters with waitedEvents := bump (s.slot k).lane.counters.waitedEvents } } := by
  rw [State.waitEvent, State.modLane_eq, State.countLane_eq, State.slot_withLane, State.withLane_withLane]
  rfl

end

/-- The states that discard events without answer: the first row of the table of R97. -/
theorem Slot.discardsEvents_iff (sl : Slot) :
    sl.discardsEvents = true ↔
      sl.state = .probing ∨ sl.state = .released ∨ sl.state = .draining true ∨ sl.state.isFailed = true ∨
        sl.lane.resyncRequired = true ∨ sl.lane.eventAnswer ≠ none ∨
        ∃ x p, sl.lane.exchange = some x ∧ x.kind = .probe p := by
  have probe : (sl.lane.exchange.map fun x => x.kind.isProbe).getD false = true ↔
      ∃ x p, sl.lane.exchange = some x ∧ x.kind = .probe p := by
    cases sl.lane.exchange with
    | none => simp
    | some x => simp [ExchangeKind.isProbe_eq_true]
  unfold Slot.discardsEvents
  rw [Bool.or_eq_true, Bool.or_eq_true, Bool.or_eq_true, probe, Option.isSome_iff_ne_none]
  clear probe
  generalize (∃ x p, sl.lane.exchange = some x ∧ x.kind = .probe p) = probing
  cases sl.state with
  | draining haltSent => cases haltSent <;> simp [SlotState.isFailed, or_comm (a := probing), or_assoc]
  | _ => simp [SlotState.isFailed, or_comm (a := probing), or_assoc]

section
variable {s : State} {k : SlotNo} {f : LaneFrame}

theorem State.judgeEvent_of_discards (discards : (s.slot k).discardsEvents = true) :
    s.judgeEvent k f =
      s.withLane k { (s.slot k).lane with
        counters := { (s.slot k).lane.counters with discardedEvents := bump (s.slot k).lane.counters.discardedEvents } } :=
  if_pos discards

theorem State.judgeEvent_of_waits (listens : ¬(s.slot k).discardsEvents = true)
    (waits : (∃ reason, (s.slot k).state = .pending reason) ∨ (s.slot k).state = .unknownClass) :
    s.judgeEvent k f = s.waitEvent k f.phase := by
  rw [State.judgeEvent]
  rw [if_neg listens]
  obtain ⟨reason, state⟩ | state := waits <;> rw [state]

theorem State.judgeEvent_of_takes (listens : ¬(s.slot k).discardsEvents = true)
    (takes : (s.slot k).state = .placed ∨ (s.slot k).state = .draining false) :
    s.judgeEvent k f =
      if f.phase = (s.slot k).lane.lastEventPhase then
        s.ackEvent k f.phase fun c => { c with duplicateEvents := bump c.duplicateEvents }
      else s.newEvent k f := by
  rw [State.judgeEvent]
  rw [if_neg listens]
  obtain state | state := takes <;> rw [state]

theorem State.newEvent_of_beyond (beyond : s.spanOf k ≤ f.argument) :
    s.newEvent k f = s.ackEvent k f.phase fun c => { c with badEvents := bump c.badEvents } :=
  if_pos beyond

/-- An event within the span of its class, at the number its index translates to (R99, R100). -/
theorem State.newEvent_of_number {number : Nat} (within : f.argument < s.spanOf k)
    (translated : s.translateEvent k f.argument = some number) :
    s.newEvent k f =
      if flagOf s.au.enabled number = false then
        s.ackEvent k f.phase fun c => { c with disabledEvents := bump c.disabledEvents }
      else if s.au.admitsEvent then
        State.ackEvent
          { s with au := s.au.append (.event number k f.argument s.pe.generation f.payload) } k f.phase
          fun c => { c with acceptedEvents := bump c.acceptedEvents }
      else s.waitEvent k f.phase := by
  rw [State.newEvent]
  rw [if_neg (Nat.not_le.mpr within), translated]

end

theorem flagOf_val (map : Vector Bool 256) (n : Fin 256) : flagOf map n.val = map[n] := by
  rw [flagOf, List.getD_eq_getElem _ _ (by simp), Vector.getElem_toList]
  rfl

/-- An EVENT is admitted while at most 55 notices are queued and fewer than 56 of them are events (R129). -/
theorem AttentionUnit.admitsEvent_iff (au : AttentionUnit) :
    au.admitsEvent = true ↔ au.queue.length ≤ 55 ∧ au.eventCount < 56 := by
  rw [AttentionUnit.admitsEvent, Bool.and_eq_true, decide_eq_true_eq, decide_eq_true_eq]
  exact Iff.rfl

/-- The states in which neither events are discarded nor taken are the ones that wait (R97). -/
theorem SlotState.waits_of_not_takes {st : SlotState} (stays : st.participates = true ∨ st = .unknownClass)
    (takes : ¬(st = .placed ∨ st = .draining false)) (sent : st ≠ .draining true) :
    (∃ reason, st = .pending reason) ∨ st = .unknownClass := by
  cases st with
  | pending reason => exact .inl ⟨reason, rfl⟩
  | unknownClass => exact .inr rfl
  | placed => exact absurd (.inl rfl) takes
  | draining haltSent =>
    cases haltSent
    · exact absurd (.inr rfl) takes
    · exact absurd rfl sent
  | _ => simp [SlotState.participates] at stays

/-- Settles O45, along the rows of the tables of R97 to R100. -/
theorem eventsJudged : Obligations.EventsJudged := by
  unfold Obligations.EventsJudged
  intro s k f
  refine ⟨fun discards => ?_, fun listens stays takes => ?_, fun listens takes same => ?_,
    fun cl listens takes new known => ?_⟩
  · exact State.judgeEvent_of_discards ((Slot.discardsEvents_iff _).mpr discards)
  · have waits := SlotState.waits_of_not_takes stays takes fun sent => listens (.inr (.inr (.inl sent)))
    rw [State.judgeEvent_of_waits (mt (Slot.discardsEvents_iff _).mp listens) waits, State.waitEvent_eq]
  · rw [State.judgeEvent_of_takes (mt (Slot.discardsEvents_iff _).mp listens) takes, if_pos same, State.ackEvent_eq]
  · have taken := (State.judgeEvent_of_takes (mt (Slot.discardsEvents_iff _).mp listens) takes).trans (if_neg new)
    have span : s.spanOf k = cl.span := by
      rw [State.spanOf, PlacementEngine.lookup]
      exact congrArg (fun found : Option ClassEntry => (found.map ClassEntry.span).getD 0) known
    refine ⟨fun beyond => ?_, fun e range number within window events value => ?_⟩
    · rw [taken, State.newEvent_of_beyond (span ▸ beyond), State.ackEvent_eq]
    · have translated : s.translateEvent k f.argument = some number.val := by
        rw [State.translateEvent, window, Option.bind_some, events, value]
        rfl
      have judged := taken.trans (State.newEvent_of_number (span ▸ within) translated)
      rw [flagOf_val] at judged
      refine ⟨fun disabled => ?_, fun enabled room few => ?_, fun enabled full => ?_⟩
      · rw [judged, if_pos disabled, State.ackEvent_eq]
      · rw [judged, if_neg (by rw [enabled]; decide), if_pos ((AttentionUnit.admitsEvent_iff _).mpr ⟨room, few⟩),
          State.ackEvent_eq]
        rfl
      · rw [judged, if_neg (by rw [enabled]; decide),
          if_neg (mt (AttentionUnit.admitsEvent_iff _).mp fun h => by omega), State.waitEvent_eq]

end Sys2Proof.Machine
end


section
/-! SUPPORT. The taking of an access (R108 to R113): its refusals in their order, and its acceptance. -/

namespace Sys2Proof.Machine

-- One proof at a time: many side by side take a thread and its stack each.
set_option Elab.async false

/-! ## The request of an access (R108) -/

/-- The command of an access. -/
def AccessKind.command : AccessKind → Instr
  | .read => .accessRead
  | .write => .accessWrite

section
variable {s : State} {r : HostRequest} {kind : AccessKind} {view address count : Nat} {data : List Word}

theorem State.admitted_read (s : State) (tag : Byte) (k : SlotNo) (offset count : Nat) (data : List Word) :
    s.admitted tag .read k offset count data = s.admitted tag .read k offset count [] := by
  simp only [State.admitted, reduceCtorEq, if_false]

/-- A read carries no words. -/
theorem State.serveAccess_read (s : State) (r : HostRequest) (view address count : Nat) (data : List Word) :
    s.serveAccess r .read view address count [] = s.serveAccess r .read view address count data := by
  simp only [State.serveAccess, State.accept_eq, s.admitted_read r.tag _ _ count data]

/-- An access whose own fields are in order is translated (R108, R109). -/
theorem State.Offers.exec_access (offer : s.Offers r) (low : 1 ≤ count) (high : count ≤ 32)
    (read : kind = .read → decodeRequest r = .accessRead view address count)
    (write : kind = .write → decodeRequest r = .accessWrite view address count data ∧ data.length = count) :
    exec kind.command s = .next (s.dropHead.serveAccess r kind view address count data).transmit := by
  have counted : ¬(count = 0 ∨ Config.maxLaneWords < count) :=
    show ¬(count = 0 ∨ 32 < count) by omega
  cases kind with
  | read =>
    have served : s.dropHead.serveRead r view address count = s.dropHead.serveAccess r .read view address count data :=
      (if_neg counted).trans (s.dropHead.serveAccess_read r view address count data)
    rw [← served]
    exact offer.exec_command (read rfl)
  | write =>
    obtain ⟨request, length⟩ := write rfl
    have served : s.dropHead.serveWrite r view address count data =
        s.dropHead.serveAccess r .write view address count data :=
      (if_neg counted).trans (if_neg (not_not_intro length))
    rw [← served]
    exact offer.exec_command request

/-! ## The ends of an access (R109 to R111) -/

theorem State.serveAccess_of_refused {status : Status} (translated : s.translate view address count kind = .refused status) :
    s.serveAccess r kind view address count data = s.answer r status (.generation s.pe.generation) := by
  rw [State.serveAccess, translated]

theorem State.serveAccess_of_fence {word : Word} (translated : s.translate view address count kind = .fence word) :
    s.serveAccess r kind view address count data = s.answer r .ok (.fenceWord s.pe.generation word) := by
  rw [State.serveAccess, translated]

section
variable {k : SlotNo} {offset : Nat} (translated : s.translate view address count kind = .window k offset)
include translated

theorem State.serveAccess_of_noRoom {status : Status} (refused : s.refuseAccess k count = some status) :
    s.serveAccess r kind view address count data = s.answer r status (.generation s.pe.generation) := by
  rw [State.serveAccess, translated]
  dsimp only
  rw [refused]

theorem State.serveAccess_of_room (room : s.refuseAccess k count = none) :
    s.serveAccess r kind view address count data = (s.admitted r.tag kind k offset count data).advance k := by
  rw [State.serveAccess, translated]
  dsimp only
  rw [room]
  exact s.accept_eq r.tag kind k offset count data

end

end

/-! ## The capacity checks (R110) -/

section
variable {s : State} {k : SlotNo} {count : Nat}

theorem State.refuseAccess_of_state (other : (s.slot k).state ≠ .placed) : s.refuseAccess k count = some .slotState :=
  if_pos other

section
variable (placed : (s.slot k).state = .placed)
include placed

theorem State.refuseAccess_of_table (full : 32 ≤ s.transactions.length) : s.refuseAccess k count = some .noTxn :=
  (if_neg (not_not_intro placed)).trans (if_pos full)

variable (table : s.transactions.length < 32)
include table

theorem State.refuseAccess_of_lane (full : 4 ≤ (s.laneQueue k).length) : s.refuseAccess k count = some .laneBusy :=
  (if_neg (not_not_intro placed)).trans ((if_neg (Nat.not_le.mpr table)).trans (if_pos full))

theorem State.refuseAccess_of_blocks (lane : (s.laneQueue k).length < 4) (few : s.pool.freeBlocks.length < blocksFor count) :
    s.refuseAccess k count = some .noBuffer :=
  (if_neg (not_not_intro placed)).trans
    ((if_neg (Nat.not_le.mpr table)).trans ((if_neg (Nat.not_le.mpr lane)).trans (if_pos few)))

end

end

/-- Settles O46: the checks of R108, R109 and R110 in their order. -/
theorem accessRefusals : Obligations.AccessRefusals := by
  unfold Obligations.AccessRefusals
  intro s r offer
  refine ⟨fun view address count request bad => ?_, fun view address count data request bad => ?_,
    fun view address count data request low high length => ?_,
    fun kind view address count data low high read write => ?_⟩
  · have served : s.dropHead.serveRead r view address count = s.replied r .badParam (.generation s.pe.generation) :=
      if_pos (show count = 0 ∨ Config.maxLaneWords < count from bad)
    rw [← served]
    exact offer.exec_command request
  · have served : s.dropHead.serveWrite r view address count data =
        s.replied r .badParam (.generation s.pe.generation) :=
      if_pos (show count = 0 ∨ Config.maxLaneWords < count from bad)
    rw [← served]
    exact offer.exec_command request
  · have served : s.dropHead.serveWrite r view address count data =
        s.replied r .badFormat (.generation s.pe.generation) :=
      (if_neg (show ¬(count = 0 ∨ 32 < count) by omega)).trans (if_pos length)
    rw [← served]
    exact offer.exec_command request
  · have run {u : State} (served : s.dropHead.serveAccess r kind view address count data = u) :
        exec kind.command s = .next u.transmit := served ▸ offer.exec_access low high read write
    refine ⟨fun status translated => run (State.serveAccess_of_refused (s := s.dropHead) translated),
      fun word translated => run (State.serveAccess_of_fence (s := s.dropHead) translated), fun k offset translated => ?_⟩
    have refused {status : Status} (capacity : s.dropHead.refuseAccess k count = some status) :=
      run (State.serveAccess_of_noRoom (s := s.dropHead) translated capacity)
    exact ⟨fun other => refused (State.refuseAccess_of_state other),
      fun placed full => refused (State.refuseAccess_of_table placed full),
      fun placed table full => refused (State.refuseAccess_of_lane placed table full),
      fun placed table lane few => refused (State.refuseAccess_of_blocks placed table lane few)⟩

/-! ## The acceptance of an access (R111, R113) -/

/-- On an idle lane without transactions the exchange of an accepted access begins (R113). -/
theorem State.advance_admitted {s : State} {tag : Byte} {k : SlotNo} (kind : AccessKind) (offset count : Nat)
    (data : List Word) (placed : (s.slot k).state = .placed) (empty : ∀ t ∈ s.transactions, t.slot ≠ k)
    (fresh : ∀ t ∈ s.transactions, t.tag ≠ tag) (idle : (s.slot k).lane.exchange = none)
    (settled : (s.slot k).lane.resyncRequired = false) :
    (s.admitted tag kind k offset count data).advance k =
      State.laneTransmit
        { (s.admitted tag kind k offset count data).withLane k
            ((s.slot k).lane.start (s.admission tag kind k offset count).exchangeKind) with
          transactions := s.transactions ++ [{ s.admission tag kind k offset count with state := .inExchange }] } k := by
  have queue : (s.admitted tag kind k offset count data).laneQueue k =
      [] ++ s.admission tag kind k offset count :: [] := by
    have none : s.laneQueue k = [] := List.filter_eq_nil_iff.mpr fun t ht => by simpa using empty t ht
    rw [State.laneQueue_admitted, if_pos rfl, none]
  have waits : (s.admitted tag kind k offset count data).candidate k = some (s.admission tag kind k offset count) :=
    State.candidate_eq_some (show (s.slot k).state.participates = true by rw [placed]; rfl) queue nofun rfl
  have marked : (s.transactions ++ [s.admission tag kind k offset count]).map
        (fun u => if u.tag = (s.admission tag kind k offset count).tag then { u with state := .inExchange } else u) =
      s.transactions ++ [{ s.admission tag kind k offset count with state := .inExchange }] := by
    rw [List.map_append, List.map_singleton, if_pos rfl]
    refine congrArg (· ++ _) ((List.map_congr_left fun u hu => ?_).trans (List.map_id _))
    exact if_neg (fresh u hu)
  rw [State.advance_of_candidate (s := s.admitted tag kind k offset count data) idle
    (show (s.slot k).state ≠ .probing by rw [placed]; nofun) settled waits, State.admitted_transactions, marked]
  rfl

/-- Settles O47, from the state an access is admitted to and the lane's going on. -/
theorem accessAccepted : Obligations.AccessAccepted := by
  unfold Obligations.AccessAccepted
  intro s r kind view address count offset data k offer low high read write translated placed table lane free enough
  have room : s.dropHead.refuseAccess k count = none :=
    State.refuseAccess_eq_none.mpr ⟨placed, table, lane, enough⟩
  have run := offer.exec_access low high read write
  rw [State.serveAccess_of_room (s := s.dropHead) translated room] at run
  refine ⟨run.trans ?_, fun empty fresh idle settled => run.trans ?_⟩
  · cases kind <;> rfl
  · rw [State.advance_admitted (s := s.dropHead) kind offset count data placed empty fresh idle settled]
    cases kind <;> rfl

end Sys2Proof.Machine
end


section
/-! SUPPORT. Cancel Access (R121, R122, R94). -/

namespace Sys2Proof.Machine

-- One proof at a time: many side by side take a thread and its stack each.
set_option Elab.async false

/-- The exchange of a transaction is marked cancelled, and one whose retry waits unsent ends at once (R94, R122). -/
theorem State.cancelExchange_eq {s : State} {k : SlotNo} {x : Exchange} {tag : Byte}
    (exchange : (s.slot k).lane.exchange = some x) (access : x.kind.tag? = some tag) :
    s.cancelExchange k =
      let marked : Exchange := { x with cancelled := true }
      let cancelling := s.withLane k { (s.slot k).lane with exchange := some marked }
      if x.frameWaiting = true ∧ 1 < x.sends then (cancelling.expireCancelled k marked).advance k else cancelling := by
  have mark : x.cancel = { x with cancelled := true } := by
    rw [Exchange.cancel, access, Option.isSome_some, Bool.or_true]
  have lane : (s.slot k).lane.cancel = { (s.slot k).lane with exchange := some { x with cancelled := true } } := by
    rw [Lane.cancel, exchange, Option.map_some, mark]
  have waits : (({ x with cancelled := true } : Exchange).cancelled && ({ x with cancelled := true } : Exchange).retryWaits) =
      true ↔ x.frameWaiting = true ∧ 1 < x.sends := by
    simp [Exchange.retryWaits]
  rw [State.cancelExchange, State.modLane_eq, lane, State.slot_withLane]
  exact if_congr waits rfl rfl

section
variable {s : State} {r : HostRequest} {target : Byte}

theorem State.transaction?_eq_none (unused : ∀ t ∈ s.transactions, t.tag ≠ target) : s.transaction? target = none :=
  List.find?_eq_none.mpr fun t ht => by simpa using unused t ht

theorem State.serveCancel_of_absent (unused : ∀ t ∈ s.transactions, t.tag ≠ target) :
    s.serveCancel r target = s.answer r .noSuchTag .none := by
  rw [State.serveCancel, State.transaction?_eq_none unused]

section
variable {t : Transaction} (distinct : s.TagsDistinct) (present : t ∈ s.transactions)
include distinct present

theorem State.serveCancel_of_waiting (state : t.state = .waiting) :
    s.serveCancel r t.tag = ((s.endCancelled t .notSent).answer r .ok (.foundState .waiting)).advance t.slot := by
  rw [State.serveCancel, State.transaction?_eq_some distinct present]
  dsimp only
  rw [state]

theorem State.serveCancel_of_cancelling (state : t.state = .cancelling) :
    s.serveCancel r t.tag = s.answer r .ok (.foundState .cancelling) := by
  rw [State.serveCancel, State.transaction?_eq_some distinct present]
  dsimp only
  rw [state]

theorem State.serveCancel_of_exchange (state : t.state = .inExchange) :
    s.serveCancel r t.tag =
      ((s.setTransactionState t.tag .cancelling).answer r .ok (.foundState .inExchange)).cancelExchange t.slot := by
  rw [State.serveCancel, State.transaction?_eq_some distinct present]
  dsimp only
  rw [state]

/-- Setting the state by the tag sets it for the one transaction that carries the tag (R104). -/
theorem State.setTransactionState_eq (st : TransactionState) :
    s.setTransactionState t.tag st =
      { s with transactions := s.transactions.map fun u => if u = t then { u with state := st } else u } := by
  have entries : s.transactions.map (fun u => if u.tag == t.tag then { u with state := st } else u) =
      s.transactions.map fun u => if u = t then { u with state := st } else u :=
    List.map_congr_left fun u hu => if_congr
      ⟨fun same => State.eq_of_tag_eq distinct hu present (eq_of_beq same), fun same => by rw [same]; exact beq_self_eq_true _⟩
      rfl rfl
  rw [State.setTransactionState, entries]

end

end

/-- Settles O49, by the state of the target. -/
theorem cancelAccessEffects : Obligations.CancelAccessEffects := by
  unfold Obligations.CancelAccessEffects
  intro s r target offer request
  have run : exec .cancelAccess s = .next (s.dropHead.serveCancel r target).transmit := offer.exec_command request
  refine ⟨fun unused => ?_, ?_⟩
  · rw [run, State.serveCancel_of_absent (s := s.dropHead) unused]
    rfl
  · rintro t present rfl distinct
    refine ⟨fun waiting => ?_, fun cancelling => ?_, fun x tag exchanging exchange access => ?_⟩
    · rw [run, State.serveCancel_of_waiting (s := s.dropHead) distinct present waiting,
        State.endCancelled_eq (s := s.dropHead) distinct present]
      rfl
    · rw [run, State.serveCancel_of_cancelling (s := s.dropHead) distinct present cancelling]
      rfl
    · rw [State.serveCancel_of_exchange (s := s.dropHead) distinct present exchanging,
        State.setTransactionState_eq (s := s.dropHead) distinct present,
        State.cancelExchange_eq (x := x) ?exchange access] at run
      case exchange => exact exchange
      refine ⟨fun sent => run.trans ?_, fun waits retry => run.trans ?_⟩
      · exact congrArg (fun u : State => Host.Outcome.next u.transmit) (if_neg sent)
      · refine congrArg (fun u : State => Host.Outcome.next u.transmit) ((if_pos ⟨waits, retry⟩).trans ?_)
        rw [State.expireCancelled_eq, State.counting, State.slot_withLane]
        rfl

end Sys2Proof.Machine
end


section
/-! SUPPORT. Restart (R14, R82, R118, R141, R162, R163). -/

namespace Sys2Proof.Machine

-- One proof at a time: many side by side take a thread and its stack each.
set_option Elab.async false

/-- The transactions, lane by lane (R118). -/
def State.byLane (s : State) : List Transaction :=
  (List.finRange 16).flatMap fun k : SlotNo => s.transactions.filter fun t => t.slot = k

theorem State.mem_byLane {s : State} {t : Transaction} : t ∈ s.byLane ↔ t ∈ s.transactions := by
  simp [State.byLane]

/-- The pool after a Restart: the blocks of the transactions are free (R162). -/
def State.poolRestarted (s : State) : Pool :=
  Vector.ofFn fun b : Fin 96 =>
    if b ∈ s.transactions.flatMap Transaction.blocks then { s.pool[b] with owner := .free } else s.pool[b]

/-- Ending the transactions lane by lane ends them all (R118). -/
theorem State.ended_byLane (s : State) (f : Transaction → Reply) :
    s.ended s.byLane f =
      { s with
        transactions := []
        pool := s.poolRestarted
        hli := { s.hli with replies := s.hli.replies ++ s.byLane.map f } } := by
  have none : s.transactions.filter (fun t => decide (t ∉ s.byLane)) = [] :=
    List.filter_eq_nil_iff.mpr fun t ht => by simpa using State.mem_byLane.mpr ht
  have pool : (Vector.ofFn fun b : Fin 96 =>
      if b ∈ s.byLane.flatMap Transaction.blocks then { s.pool[b] with owner := .free } else s.pool[b]) = s.poolRestarted := by
    refine congrArg Vector.ofFn (funext fun b => if_congr ?_ rfl rfl)
    simp only [List.mem_flatMap, State.mem_byLane]
  rw [State.ended, none, pool]

theorem State.abortQueues_eq {s : State} (distinct : s.TagsDistinct) :
    slotNumbers.foldl (fun s k => s.abortQueue k) s =
      s.ended s.byLane fun t => t.replyWith .aborted (.generation t.generation) :=
  (State.abortQueues_spec distinct (List.nodup_finRange 16)).eq_ended distinct fun _ h => State.mem_byLane.mp h

/-- A frame being sent whose notice, if it is one, has left the queue (R152). -/
def HostSending.forgotten (f : HostSending) : HostSending :=
  { f with source := match f.source with
    | .notice _ => .noticeRemoved
    | source => source }

theorem State.forgetNotice_all (s : State) :
    (s.forgetNotice fun _ => true) =
      { s with hli := { s.hli with sending := s.hli.sending.map HostSending.forgotten } } := by
  unfold State.forgetNotice
  cases s.hli.sending with
  | none => rfl
  | some f => cases f with
    | mk source bytes => cases source <;> rfl

/-- A slot after a Restart (R82, R85, R103). -/
def Slot.restarted (sl : Slot) (settleTime : Nat) : Slot :=
  { presence := sl.presence
    state := if sl.presence then .settling else .empty
    settle := if sl.presence then some settleTime else none
    identity := if sl.presence then sl.identity else none
    joinCount := sl.joinCount
    failures := 0
    lane := { sl.lane.cleared with counters := {} } }

theorem Slot.restart_eq (sl : Slot) (settleTime : Nat) : sl.restart settleTime = sl.restarted settleTime := by
  rw [Slot.restart, Lane.quiesce_eq]
  rfl

/-- The whole state that a Restart leaves (R162, parts 1 to 8). -/
theorem State.restart_eq {s : State} (distinct : s.TagsDistinct) (scope : RestartScope) :
    s.restart scope =
      { s with
        hli := { s.hli with
          replies := s.hli.replies ++ s.byLane.map fun t => t.replyWith .aborted (.generation t.generation)
          counters := {}
          sending := s.hli.sending.map HostSending.forgotten }
        pe :=
          { catalogue := if scope = .full then [] else s.pe.catalogue
            placement := [], generation := nextGeneration s.pe.generation, stamp := nextStamp s.pe.stamp }
        slots := Vector.ofFn fun k : Fin 16 => (s.slot k).restarted s.params.settleTime
        transactions := []
        pool := s.poolRestarted
        au := s.au.restart } := by
  rw [State.restart, State.abortQueues_eq distinct, State.ended_byLane, State.forgetNotice_all]
  simp only [Slot.restart_eq]
  rfl

/-- A scope of R163 with its byte. -/
theorem RestartScope.full_iff {scope : Nat} {performed : RestartScope}
    (known : (scope = 0 ∧ performed = .keepCatalogue) ∨ (scope = 1 ∧ performed = .full)) : performed = .full ↔ scope = 1 := by
  obtain ⟨rfl, rfl⟩ | ⟨rfl, rfl⟩ := known <;> decide

section
variable {s : State} {r : HostRequest} {scope : Nat} (offer : s.Offers r) (request : decodeRequest r = .restart scope)
include offer request

theorem State.Offers.exec_restart {performed : RestartScope}
    (known : (scope = 0 ∧ performed = .keepCatalogue) ∨ (scope = 1 ∧ performed = .full)) :
    exec .restart s = .next (s.dropHead.serveRestart r performed).transmit := by
  have run : exec .restart s = .next (s.dropHead.serve r (.restart scope)).transmit := offer.exec_command request
  obtain ⟨rfl, rfl⟩ | ⟨rfl, rfl⟩ := known <;> exact run

theorem State.Offers.exec_restart_refused (other : 1 < scope) :
    exec .restart s = .next (s.replied r .badParam .none).transmit := by
  have run : exec .restart s = .next (s.dropHead.serve r (.restart scope)).transmit := offer.exec_command request
  have served : s.dropHead.serve r (.restart scope) = s.replied r .badParam .none :=
    (if_neg (show scope ≠ 0 by omega)).trans (if_neg (show scope ≠ 1 by omega))
  rw [run, served]

end

/-- Settles O18, from the whole state that a Restart leaves. -/
theorem restartEffects : Obligations.RestartEffects := by
  unfold Obligations.RestartEffects
  intro s r scope offer request distinct
  refine ⟨fun performed known => ?_, offer.exec_restart_refused request⟩
  rw [offer.exec_restart request known, State.serveRestart, State.restart_eq (s := s.dropHead) distinct]
  simp only [RestartScope.full_iff known]
  rfl

end Sys2Proof.Machine
end
